-- ==== Sys2Proof/Word.lean ====
section
/-! DEFINITION. The widths the block computes in (spec/00_scope.md R8, R9, R10). All values are unsigned. -/

namespace Sys2Proof

/-- An 8-bit value: a packed byte, a pixel byte or a character (R11). -/
abbrev Byte := BitVec 8

/-- A 4-bit value (R10): four pixels, or one hex digit. -/
abbrev Nibble := BitVec 4

/-- A control and status register as the host accesses it (R33, CSR_DW of R8). -/
abbrev Word32 := BitVec 32

end Sys2Proof
end

