-- ==== Sys2Proof/Config.lean ====
section
/-! DEFINITION. What an implementation of the block fixes, and the values the spec leaves free
(spec/00_scope.md R8, spec/93_implementation_defined.md U1, U2). -/

namespace Sys2Proof

/-- The implementation's choice of RB_MAX, counted from 1: an open parameter (R8, U2). Nothing is known of it
but its range (log 1). -/
opaque Config.rbMaxChoice : Fin 65535

/-- RB_MAX, the largest RowByteCount the RLD row buffers hold, in bytes: 1 ≤ RB_MAX ≤ 65535 (R8). -/
def Config.rbMax : Nat := Config.rbMaxChoice.val + 1

/-- Element `i` of `rld.cur` as the reset number `epoch` leaves it: unspecified (R371, U1; log 2). -/
opaque Config.curAtReset (epoch i : Nat) : Nibble

/-- Element `i` of `rld.prev` as the reset number `epoch` leaves it: unspecified (R371, U1; log 2). -/
opaque Config.prevAtReset (epoch i : Nat) : Nibble

end Sys2Proof
end

