-- ==== Sys2Proof/Machine/Operands.lean ====
section
/-! DEFINITION. The operand values of the beats and the tables of the block: nibbles and counts of body
characters (spec/30_encoding.md R113, R115), the ALUT (spec/40_alphabet_lut.md R153..R156), the hex characters
(spec/41_row_hex_encoder.md R181), and the packing and pixel expansion of rows (spec/43_rld_control.md R245,
R250). -/

namespace Sys2Proof.Machine

/-- The nibble of a character `0`..`9` (R274). -/
def digitNibble (c : Byte) : Nibble := BitVec.ofNat 4 (c.toNat - 0x30)

/-- The nibble of a character `a`..`f` (R275). -/
def lowerNibble (c : Byte) : Nibble := BitVec.ofNat 4 (c.toNat - 0x61 + 10)

/-- The nibble of a character `A`..`F` (R276). -/
def upperNibble (c : Byte) : Nibble := BitVec.ofNat 4 (c.toNat - 0x41 + 10)

/-- `low(r)` of R153, for 1 ≤ r ≤ 19: the characters `G`..`Y`. -/
def alutLow (r : Nat) : Byte := BitVec.ofNat 8 (0x46 + r)

/-- `high(k)` of R153, for 1 ≤ k ≤ 20: the characters `g`..`z`. -/
def alutHigh (k : Nat) : Byte := BitVec.ofNat 8 (0x66 + k)

/-- A result of `AlutEncode` (R154): the token's length, its characters, and the overflow bit. -/
structure Token where
  len : BitVec 2
  tok0 : Byte
  tok1 : Byte
  ovf : Bool
deriving DecidableEq, Repr

/-- `AlutEncode` (R154). -/
def alutEncode (count : BitVec 16) : Token :=
  let c := count.toNat
  if c < 1 ∨ 400 < c then ⟨0, 0, 0, true⟩
  else if c ≤ 19 then ⟨1, alutLow c, 0, false⟩
  else if c % 20 = 0 then ⟨1, alutHigh (c / 20), 0, false⟩
  else ⟨2, alutHigh (c / 20), alutLow (c % 20), false⟩

/-- `AlutDecode` (R156): the count of a multiplier character, none for every other character. -/
def alutDecode (x : Byte) : Option Nat :=
  if 0x47 ≤ x.toNat ∧ x.toNat ≤ 0x59 then some (x.toNat - 0x46)
  else if 0x67 ≤ x.toNat ∧ x.toNat ≤ 0x7A then some (20 * (x.toNat - 0x66))
  else none

/-- The count a multiplier character carries, `AlutDecode(CHAR)` (R115, R272, R273). -/
def multCount (x : Byte) : Nat := (alutDecode x).getD 0

/-- LUT_TOKEN of a token (R48, R154). -/
def tokenWord (t : Token) : Word32 :=
  (BitVec.ofBool t.ovf).setWidth 32 <<< 31 ||| t.len.setWidth 32 <<< 16 |||
    t.tok1.setWidth 32 <<< 8 ||| t.tok0.setWidth 32

/-- LUT_VALUE of a decoded character (R50, R156). -/
def valueWord : Option Nat → Word32
  | some v => 1#32 <<< 31 ||| BitVec.ofNat 32 v
  | none => 0

/-- `hexchar(n, upper)` (R181). -/
def hexChar (n : Nibble) (upper : Bool) : Byte :=
  if n.toNat ≤ 9 then BitVec.ofNat 8 (0x30 + n.toNat)
  else if upper then BitVec.ofNat 8 (0x41 + (n.toNat - 10))
  else BitVec.ofNat 8 (0x61 + (n.toNat - 10))

/-- The high nibble of a packed byte, its four leftmost pixels (R13, R85). -/
def hiNibble (b : Byte) : Nibble := b.extractLsb' 4 4

/-- The low nibble of a packed byte. -/
def loNibble (b : Byte) : Nibble := b.extractLsb' 0 4

/-- A packed byte of its high and its low nibble, `(hi << 4) | lo` (R245, R248). -/
def packByte (hi lo : Nibble) : Byte := hi ++ lo

/-- The pixel byte of one pixel: bit 1 is black and gives 0x00, bit 0 is white and gives 0xFF (R250). -/
def pixelByte (black : Bool) : Byte := if black then 0x00#8 else 0xFF#8

/-- The eight pixel bytes of a packed byte, from bit 7 down to bit 0 (R250). -/
def pixelBytes (b : Byte) : List Byte :=
  [7, 6, 5, 4, 3, 2, 1, 0].map (fun i => pixelByte (b.getLsbD i))

/-- The classes of body characters, with their operand values (R113). -/
inductive CharClass where
  | data (n : Nibble)
  | mult (v : Nat)
  | fillWhite
  | fillBlack
  | repeatRow
  | skip
  | invalid
deriving DecidableEq, Repr

/-- The class of a body character (R113, R114, R118). -/
def classOf (c : Byte) : CharClass :=
  if 0x30 ≤ c.toNat ∧ c.toNat ≤ 0x39 then .data (digitNibble c)
  else if 0x61 ≤ c.toNat ∧ c.toNat ≤ 0x66 then .data (lowerNibble c)
  else if 0x41 ≤ c.toNat ∧ c.toNat ≤ 0x46 then .data (upperNibble c)
  else if 0x47 ≤ c.toNat ∧ c.toNat ≤ 0x59 then .mult (c.toNat - 0x46)
  else if 0x67 ≤ c.toNat ∧ c.toNat ≤ 0x7A then .mult (20 * (c.toNat - 0x66))
  else if c = 0x2C#8 then .fillWhite
  else if c = 0x21#8 then .fillBlack
  else if c = 0x3A#8 then .repeatRow
  else if c = 0x0A#8 ∨ c = 0x0D#8 then .skip
  else .invalid

end Sys2Proof.Machine
end

