-- ==== Sys2Proof/Syntax.lean ====
section
/-! DEFINITION. The syntax of the block: the three input formats of R110 (spec/30_encoding.md), and one
constructor of `Instr` for each row of spec/opcode_table.json. -/

namespace Sys2Proof

/-- The input formats of R110. -/
inductive Format where
  | rldBeat
  | hexBeat
  | hostOp
deriving DecidableEq, Repr

/-- One input to the block, as the bits of its format (R110): an RLDBEAT or a HEXBEAT of 9 bits, a HOSTOP
of 41 bits. -/
inductive Input where
  | rldBeat (w : BitVec 9)
  | hexBeat (w : BitVec 9)
  | hostOp (w : BitVec 41)
deriving DecidableEq, Repr

/-- The operations of R122, one constructor per row of the opcode table. A Char beat's row matches one
code exactly, so its constructor has no operand; `invalid0xNN` is the INVALID row of code 0xNN. The bits a
format carries and the operation ignores (CHAR of END, DATA of CSR_READ) are operands, so that no bit of an
input is dropped before its meaning drops it. -/
inductive Instr where
  | endBeat (char : BitVec 8)
  | hexByte (last : Bool) (data : BitVec 8)
  | csrRead (addr : BitVec 8) (data : BitVec 32)
  | ctrlWrite (data : BitVec 32)
  | csrWrite (addr : BitVec 8) (data : BitVec 32)
  | hexStart (data : BitVec 32)
  | hexStop (data : BitVec 32)
  | rldStart (data : BitVec 32)
  | rldAbort (data : BitVec 32)
  | lutEncode (data : BitVec 32)
  | lutDecode (data : BitVec 32)
  | invalid0x00 | invalid0x01 | invalid0x02 | invalid0x03 | invalid0x04 | invalid0x05 | invalid0x06 | invalid0x07
  | invalid0x08 | invalid0x09 | skipLf | invalid0x0B | invalid0x0C | skipCr | invalid0x0E | invalid0x0F
  | invalid0x10 | invalid0x11 | invalid0x12 | invalid0x13 | invalid0x14 | invalid0x15 | invalid0x16 | invalid0x17
  | invalid0x18 | invalid0x19 | invalid0x1A | invalid0x1B | invalid0x1C | invalid0x1D | invalid0x1E | invalid0x1F
  | invalid0x20 | fillBlack | invalid0x22 | invalid0x23 | invalid0x24 | invalid0x25 | invalid0x26 | invalid0x27
  | invalid0x28 | invalid0x29 | invalid0x2A | invalid0x2B | fillWhite | invalid0x2D | invalid0x2E | invalid0x2F
  | dataDigit0 | dataDigit1 | dataDigit2 | dataDigit3 | dataDigit4 | dataDigit5 | dataDigit6 | dataDigit7
  | dataDigit8 | dataDigit9 | repeatRow | invalid0x3B | invalid0x3C | invalid0x3D | invalid0x3E | invalid0x3F
  | invalid0x40 | dataUpperA | dataUpperB | dataUpperC | dataUpperD | dataUpperE | dataUpperF | multLowG
  | multLowH | multLowI | multLowJ | multLowK | multLowL | multLowM | multLowN | multLowO
  | multLowP | multLowQ | multLowR | multLowS | multLowT | multLowU | multLowV | multLowW
  | multLowX | multLowY | invalid0x5A | invalid0x5B | invalid0x5C | invalid0x5D | invalid0x5E | invalid0x5F
  | invalid0x60 | dataLowerA | dataLowerB | dataLowerC | dataLowerD | dataLowerE | dataLowerF | multHighG
  | multHighH | multHighI | multHighJ | multHighK | multHighL | multHighM | multHighN | multHighO
  | multHighP | multHighQ | multHighR | multHighS | multHighT | multHighU | multHighV | multHighW
  | multHighX | multHighY | multHighZ | invalid0x7B | invalid0x7C | invalid0x7D | invalid0x7E | invalid0x7F
  | invalid0x80 | invalid0x81 | invalid0x82 | invalid0x83 | invalid0x84 | invalid0x85 | invalid0x86 | invalid0x87
  | invalid0x88 | invalid0x89 | invalid0x8A | invalid0x8B | invalid0x8C | invalid0x8D | invalid0x8E | invalid0x8F
  | invalid0x90 | invalid0x91 | invalid0x92 | invalid0x93 | invalid0x94 | invalid0x95 | invalid0x96 | invalid0x97
  | invalid0x98 | invalid0x99 | invalid0x9A | invalid0x9B | invalid0x9C | invalid0x9D | invalid0x9E | invalid0x9F
  | invalid0xA0 | invalid0xA1 | invalid0xA2 | invalid0xA3 | invalid0xA4 | invalid0xA5 | invalid0xA6 | invalid0xA7
  | invalid0xA8 | invalid0xA9 | invalid0xAA | invalid0xAB | invalid0xAC | invalid0xAD | invalid0xAE | invalid0xAF
  | invalid0xB0 | invalid0xB1 | invalid0xB2 | invalid0xB3 | invalid0xB4 | invalid0xB5 | invalid0xB6 | invalid0xB7
  | invalid0xB8 | invalid0xB9 | invalid0xBA | invalid0xBB | invalid0xBC | invalid0xBD | invalid0xBE | invalid0xBF
  | invalid0xC0 | invalid0xC1 | invalid0xC2 | invalid0xC3 | invalid0xC4 | invalid0xC5 | invalid0xC6 | invalid0xC7
  | invalid0xC8 | invalid0xC9 | invalid0xCA | invalid0xCB | invalid0xCC | invalid0xCD | invalid0xCE | invalid0xCF
  | invalid0xD0 | invalid0xD1 | invalid0xD2 | invalid0xD3 | invalid0xD4 | invalid0xD5 | invalid0xD6 | invalid0xD7
  | invalid0xD8 | invalid0xD9 | invalid0xDA | invalid0xDB | invalid0xDC | invalid0xDD | invalid0xDE | invalid0xDF
  | invalid0xE0 | invalid0xE1 | invalid0xE2 | invalid0xE3 | invalid0xE4 | invalid0xE5 | invalid0xE6 | invalid0xE7
  | invalid0xE8 | invalid0xE9 | invalid0xEA | invalid0xEB | invalid0xEC | invalid0xED | invalid0xEE | invalid0xEF
  | invalid0xF0 | invalid0xF1 | invalid0xF2 | invalid0xF3 | invalid0xF4 | invalid0xF5 | invalid0xF6 | invalid0xF7
  | invalid0xF8 | invalid0xF9 | invalid0xFA | invalid0xFB | invalid0xFC | invalid0xFD | invalid0xFE | invalid0xFF
deriving DecidableEq, Repr

/-- The rows of class INVALID (R113, R118). -/
def Instr.invalidRows : List Instr :=
  ([.invalid0x00, .invalid0x01, .invalid0x02, .invalid0x03, .invalid0x04, .invalid0x05, .invalid0x06, .invalid0x07,
    .invalid0x08, .invalid0x09, .invalid0x0B, .invalid0x0C, .invalid0x0E, .invalid0x0F, .invalid0x10, .invalid0x11,
    .invalid0x12, .invalid0x13, .invalid0x14, .invalid0x15, .invalid0x16, .invalid0x17, .invalid0x18, .invalid0x19,
    .invalid0x1A, .invalid0x1B, .invalid0x1C, .invalid0x1D, .invalid0x1E, .invalid0x1F, .invalid0x20, .invalid0x22,
    .invalid0x23, .invalid0x24, .invalid0x25, .invalid0x26, .invalid0x27, .invalid0x28, .invalid0x29, .invalid0x2A,
    .invalid0x2B, .invalid0x2D, .invalid0x2E, .invalid0x2F, .invalid0x3B, .invalid0x3C, .invalid0x3D, .invalid0x3E,
    .invalid0x3F, .invalid0x40, .invalid0x5A, .invalid0x5B, .invalid0x5C, .invalid0x5D, .invalid0x5E, .invalid0x5F,
    .invalid0x60, .invalid0x7B, .invalid0x7C, .invalid0x7D, .invalid0x7E, .invalid0x7F, .invalid0x80, .invalid0x81] : List Instr) ++
  ([.invalid0x82, .invalid0x83, .invalid0x84, .invalid0x85, .invalid0x86, .invalid0x87, .invalid0x88, .invalid0x89,
    .invalid0x8A, .invalid0x8B, .invalid0x8C, .invalid0x8D, .invalid0x8E, .invalid0x8F, .invalid0x90, .invalid0x91,
    .invalid0x92, .invalid0x93, .invalid0x94, .invalid0x95, .invalid0x96, .invalid0x97, .invalid0x98, .invalid0x99,
    .invalid0x9A, .invalid0x9B, .invalid0x9C, .invalid0x9D, .invalid0x9E, .invalid0x9F, .invalid0xA0, .invalid0xA1,
    .invalid0xA2, .invalid0xA3, .invalid0xA4, .invalid0xA5, .invalid0xA6, .invalid0xA7, .invalid0xA8, .invalid0xA9,
    .invalid0xAA, .invalid0xAB, .invalid0xAC, .invalid0xAD, .invalid0xAE, .invalid0xAF, .invalid0xB0, .invalid0xB1,
    .invalid0xB2, .invalid0xB3, .invalid0xB4, .invalid0xB5, .invalid0xB6, .invalid0xB7, .invalid0xB8, .invalid0xB9,
    .invalid0xBA, .invalid0xBB, .invalid0xBC, .invalid0xBD, .invalid0xBE, .invalid0xBF, .invalid0xC0, .invalid0xC1] : List Instr) ++
  ([.invalid0xC2, .invalid0xC3, .invalid0xC4, .invalid0xC5, .invalid0xC6, .invalid0xC7, .invalid0xC8, .invalid0xC9,
    .invalid0xCA, .invalid0xCB, .invalid0xCC, .invalid0xCD, .invalid0xCE, .invalid0xCF, .invalid0xD0, .invalid0xD1,
    .invalid0xD2, .invalid0xD3, .invalid0xD4, .invalid0xD5, .invalid0xD6, .invalid0xD7, .invalid0xD8, .invalid0xD9,
    .invalid0xDA, .invalid0xDB, .invalid0xDC, .invalid0xDD, .invalid0xDE, .invalid0xDF, .invalid0xE0, .invalid0xE1,
    .invalid0xE2, .invalid0xE3, .invalid0xE4, .invalid0xE5, .invalid0xE6, .invalid0xE7, .invalid0xE8, .invalid0xE9,
    .invalid0xEA, .invalid0xEB, .invalid0xEC, .invalid0xED, .invalid0xEE, .invalid0xEF, .invalid0xF0, .invalid0xF1,
    .invalid0xF2, .invalid0xF3, .invalid0xF4, .invalid0xF5, .invalid0xF6, .invalid0xF7, .invalid0xF8, .invalid0xF9,
    .invalid0xFA, .invalid0xFB, .invalid0xFC, .invalid0xFD, .invalid0xFE, .invalid0xFF] : List Instr)

/-- The rows of class SKIP (R113). -/
def Instr.skipRows : List Instr :=
  ([.skipLf, .skipCr] : List Instr)

/-- The MULT_LOW rows, each with the count R113 gives its character. -/
def Instr.multLowRows : List (Instr × Nat) :=
  ([(.multLowG, 1), (.multLowH, 2), (.multLowI, 3), (.multLowJ, 4), (.multLowK, 5), (.multLowL, 6),
    (.multLowM, 7), (.multLowN, 8), (.multLowO, 9), (.multLowP, 10), (.multLowQ, 11), (.multLowR, 12),
    (.multLowS, 13), (.multLowT, 14), (.multLowU, 15), (.multLowV, 16), (.multLowW, 17), (.multLowX, 18),
    (.multLowY, 19)] : List (Instr × Nat))

/-- The MULT_HIGH rows, each with the count R113 gives its character. -/
def Instr.multHighRows : List (Instr × Nat) :=
  ([(.multHighG, 20), (.multHighH, 40), (.multHighI, 60), (.multHighJ, 80), (.multHighK, 100), (.multHighL, 120),
    (.multHighM, 140), (.multHighN, 160), (.multHighO, 180), (.multHighP, 200), (.multHighQ, 220), (.multHighR, 240),
    (.multHighS, 260), (.multHighT, 280), (.multHighU, 300), (.multHighV, 320), (.multHighW, 340), (.multHighX, 360),
    (.multHighY, 380), (.multHighZ, 400)] : List (Instr × Nat))

/-- The DATA_DIGIT rows, each with the nibble R113 gives its character. -/
def Instr.dataDigitRows : List (Instr × BitVec 4) :=
  ([(.dataDigit0, 0), (.dataDigit1, 1), (.dataDigit2, 2), (.dataDigit3, 3), (.dataDigit4, 4), (.dataDigit5, 5),
    (.dataDigit6, 6), (.dataDigit7, 7), (.dataDigit8, 8), (.dataDigit9, 9)] : List (Instr × BitVec 4))

/-- The DATA_UPPER rows, each with the nibble R113 gives its character. -/
def Instr.dataUpperRows : List (Instr × BitVec 4) :=
  ([(.dataUpperA, 10), (.dataUpperB, 11), (.dataUpperC, 12), (.dataUpperD, 13), (.dataUpperE, 14), (.dataUpperF, 15)] : List (Instr × BitVec 4))

/-- The DATA_LOWER rows, each with the nibble R113 gives its character. -/
def Instr.dataLowerRows : List (Instr × BitVec 4) :=
  ([(.dataLowerA, 10), (.dataLowerB, 11), (.dataLowerC, 12), (.dataLowerD, 13), (.dataLowerE, 14), (.dataLowerF, 15)] : List (Instr × BitVec 4))

end Sys2Proof
end

