-- ==== Sys2Proof/Machine/State.lean ====
section
/-! DEFINITION. The state of the block as plain data (spec/10_state.md R30..R57, spec/20_memory.md R81), its
value after reset (R56), and the reasons a step can stop. -/

namespace Sys2Proof.Machine

/-- One beat of an output stream, HEXOUT or RLDOUT (R111). -/
structure OutBeat where
  data : Byte
  rowEnd : Bool
deriving DecidableEq, Repr

/-- `hex.state` (R51). -/
inductive HexState where
  | idle
  | run
  | error
deriving DecidableEq, Repr

/-- `rld.state` (R52). -/
inductive RldState where
  | idle
  | run
  | done
  | error
deriving DecidableEq, Repr

/-- The error kinds of R331. The reserved codes 6..15 have no constructor, since they are never written
(V3 of spec/93_implementation_defined.md; log 20). -/
inductive ErrKind where
  | none
  | invalidDimension
  | malformedField
  | geometryMismatch
  | alphabetOverflow
  | invalidThreshold
deriving DecidableEq, Repr

/-- The error details of R332. Every other code is reserved and never written (log 20). -/
inductive Detail where
  | none
  | rZero
  | rAboveMax
  | totalZero
  | totalNotMultiple
  | badChar
  | repeatNoPrev
  | countAtTerminator
  | repeatMidRow
  | countAtEnd
  | bodylenMismatch
  | runOverflow
  | extraData
  | shortBody
  | hexLastMismatch
deriving DecidableEq, Repr

/-- The stored fields of the RW registers (R35, R36, R37, R38, R47, R49). Reserved bits and the two
write-1-pulse bits of CTRL store nothing (R34). -/
structure Csr where
  hexEn : Bool
  hexUpper : Bool
  rldPixel : Bool
  rowbytes : BitVec 16
  total : Word32
  bodylen : Word32
  lutCount : BitVec 16
  lutChar : Byte
deriving DecidableEq, Repr

/-- The HEX unit (R51). `rb` is `hex.R`. -/
structure HexUnit where
  state : HexState
  rb : BitVec 16
  upper : Bool
  idx : BitVec 16
  rows : Word32
  err : ErrKind
  detail : Detail
  outq : List OutBeat
deriving DecidableEq, Repr

/-- The RLD (R52, R53). `rb` is `rld.R`. A row buffer lists its elements from 0 up to the last one written
since the last reset; an element past its end holds what the reset left, a free value (R371, log 2).
`epoch` counts the resets taken and selects those free values; it is the model's own field. -/
structure RldUnit where
  state : RldState
  rb : BitVec 16
  height : Word32
  rows : Word32
  cursor : BitVec 17
  counter : BitVec 17
  hasPrev : Bool
  pix : Bool
  bodylen : Word32
  bodycnt : Word32
  err : ErrKind
  detail : Detail
  cur : List Nibble
  prev : List Nibble
  outq : List OutBeat
  epoch : Nat
deriving DecidableEq, Repr

/-- The answer to a completed host access (R84, R300, R301): a read gives csr_rdata and csr_err, a write
csr_err alone, since the spec states no read data for a write (log 5). -/
inductive Reply where
  | read (rdata : Word32) (err : Bool)
  | write (err : Bool)
deriving DecidableEq, Repr

/-- Whose turn comes next in the interleaving of R93: the host's next access, the next beat of an input
stream, a consumer taking a beat, or the reset line (R370). -/
inductive Turn where
  | host
  | hexIn
  | rldIn
  | hexOut
  | rldOut
  | rst
deriving DecidableEq, Repr

/-- The block and what is presented at its ports. `csr`, `hex` and `rld` are the spec's state. `reply` is the
answer of the last completed access, `none` when no access completed since reset (log 5). `hostIn`, `hexIn`
and `rldIn` are what the host and the producers present, first in order first, and `schedule` is the order of
turns (R93); these four are the model's own fields (log 4). -/
structure State where
  csr : Csr
  hex : HexUnit
  rld : RldUnit
  reply : Option Reply
  hostIn : List (BitVec 41)
  hexIn : List (BitVec 9)
  rldIn : List (BitVec 9)
  schedule : List Turn
deriving DecidableEq, Repr

/-- Why the machine would stop with a fault: never. The spec gives every event an effect (R330: an error is a
unit state, an OVF bit or a bus error, "and no other"), so this type has no constructor. -/
inductive Fault where
deriving DecidableEq, Repr

/-- Why the machine would refuse an instruction. -/
inductive Refusal where
  /-- The instruction has no meaning in the model; raised by an arm of `exec` alone, and by none now. Safe: it
  stops where the hardware goes on. -/
  | notModelled (mnemonic : String)
deriving DecidableEq, Repr

/-- The registers after reset (R56). -/
def Csr.reset : Csr where
  hexEn := false
  hexUpper := false
  rldPixel := false
  rowbytes := 0
  total := 0
  bodylen := 0
  lutCount := 0
  lutChar := 0

/-- The HEX unit after reset (R56). -/
def HexUnit.reset : HexUnit where
  state := .idle
  rb := 0
  upper := false
  idx := 0
  rows := 0
  err := .none
  detail := .none
  outq := []

/-- The RLD after reset number `epoch` (R56, R371): the row buffers hold free values only. -/
def RldUnit.reset (epoch : Nat) : RldUnit where
  state := .idle
  rb := 0
  height := 0
  rows := 0
  cursor := 0
  counter := 0
  hasPrev := false
  pix := false
  bodylen := 0
  bodycnt := 0
  err := .none
  detail := .none
  cur := []
  prev := []
  outq := []
  epoch := epoch

/-- The block right after reset (R56, R370, R372), with nothing presented at its ports. -/
def State.reset : State where
  csr := Csr.reset
  hex := HexUnit.reset
  rld := RldUnit.reset 0
  reply := none
  hostIn := []
  hexIn := []
  rldIn := []
  schedule := []

end Sys2Proof.Machine
end

