-- ==== Sys2Proof/Machine/Flags.lean ====
section
/-! DEFINITION. The status fields: the codes of unit states, error kinds and error details
(spec/60_exceptions.md R331, R332, spec/45_host_interface.md R300) and the read view of every register
(spec/10_state.md R33..R50). The block has no condition flags (R32). -/

namespace Sys2Proof.Machine

/-- `enc(hex.state)` (R39, R300). -/
def HexState.code : HexState → BitVec 2
  | .idle => 0
  | .run => 1
  | .error => 2

/-- `enc(rld.state)` (R41, R300). -/
def RldState.code : RldState → BitVec 2
  | .idle => 0
  | .run => 1
  | .done => 2
  | .error => 3

/-- The error kind code (R331). -/
def ErrKind.code : ErrKind → BitVec 4
  | .none => 0
  | .invalidDimension => 1
  | .malformedField => 2
  | .geometryMismatch => 3
  | .alphabetOverflow => 4
  | .invalidThreshold => 5

/-- The error detail code (R332). -/
def Detail.code : Detail → BitVec 8
  | .none => 0x00
  | .rZero => 0x01
  | .rAboveMax => 0x02
  | .totalZero => 0x03
  | .totalNotMultiple => 0x04
  | .badChar => 0x10
  | .repeatNoPrev => 0x11
  | .countAtTerminator => 0x12
  | .repeatMidRow => 0x13
  | .countAtEnd => 0x14
  | .bodylenMismatch => 0x15
  | .runOverflow => 0x20
  | .extraData => 0x21
  | .shortBody => 0x22
  | .hexLastMismatch => 0x30

/-- The kind each detail belongs to (R332). -/
def Detail.kind : Detail → ErrKind
  | .none => .none
  | .rZero => .invalidDimension
  | .rAboveMax => .invalidDimension
  | .totalZero => .invalidDimension
  | .totalNotMultiple => .geometryMismatch
  | .badChar => .malformedField
  | .repeatNoPrev => .malformedField
  | .countAtTerminator => .malformedField
  | .repeatMidRow => .malformedField
  | .countAtEnd => .malformedField
  | .bodylenMismatch => .malformedField
  | .runOverflow => .geometryMismatch
  | .extraData => .geometryMismatch
  | .shortBody => .geometryMismatch
  | .hexLastMismatch => .invalidDimension

/-- A one-bit field at bit `k` of a register. -/
def bitField (b : Bool) (k : Nat) : Word32 := (BitVec.ofBool b).setWidth 32 <<< k

/-- CTRL as read: bits 2:0; the pulse bits read 0 (R35, R300). -/
def ctrlView (c : Csr) : Word32 :=
  bitField c.hexEn 0 ||| bitField c.hexUpper 1 ||| bitField c.rldPixel 2

/-- HEX_STATUS as read (R39, R300). -/
def hexStatusView (u : HexUnit) : Word32 :=
  u.idx.setWidth 32 <<< 16 ||| u.detail.code.setWidth 32 <<< 8 ||| u.err.code.setWidth 32 <<< 4 |||
    bitField u.upper 2 ||| u.state.code.setWidth 32

/-- RLD_STATUS as read (R41, R300). -/
def rldStatusView (u : RldUnit) : Word32 :=
  u.rb.setWidth 32 <<< 16 ||| u.detail.code.setWidth 32 <<< 8 ||| u.err.code.setWidth 32 <<< 4 |||
    bitField u.pix 3 ||| bitField u.hasPrev 2 ||| u.state.code.setWidth 32

/-- Whether a host access to an address is a bus error: misaligned, or at least 0x40 (R84). -/
def busError (a : BitVec 8) : Bool := a.toNat % 4 != 0 || 0x40 ≤ a.toNat

/-- `View(a)`: the register map as the host reads it (R33, R300). -/
def csrView (a : BitVec 8) (s : State) : Word32 :=
  match a.toNat with
  | 0x00 => ctrlView s.csr
  | 0x04 => s.csr.rowbytes.setWidth 32
  | 0x08 => s.csr.total
  | 0x0C => s.csr.bodylen
  | 0x10 => hexStatusView s.hex
  | 0x14 => s.hex.rows
  | 0x18 => rldStatusView s.rld
  | 0x1C => s.rld.rows
  | 0x20 => s.rld.height
  | 0x24 => s.rld.bodycnt
  | 0x28 => s.rld.cursor.setWidth 32
  | 0x2C => s.rld.counter.setWidth 32
  | 0x30 => s.csr.lutCount.setWidth 32
  | 0x34 => tokenWord (alutEncode s.csr.lutCount)
  | 0x38 => s.csr.lutChar.setWidth 32
  | 0x3C => valueWord (alutDecode s.csr.lutChar)
  | _ => 0

end Sys2Proof.Machine
end

