-- ==== Sys2Proof/Machine/Ops.lean ====
section
/-! DEFINITION. The shared operations of the units: row buffers, output beats, error entry and exit, the
prologue of a Char beat, the placing of data, fills and repeats, row completion, starts and stops, register
writes, the consumers' takes, and reset (spec/41_row_hex_encoder.md to spec/45_host_interface.md,
spec/60_exceptions.md R340..R345, spec/70_reset_and_hazards.md R370). -/

namespace Sys2Proof.Machine

/-! Parts of the state. -/

/-- Put another RLD in a state. -/
def State.withRld (s : State) (u : RldUnit) : State := { s with rld := u }

/-- Put another HEX unit in a state. -/
def State.withHex (s : State) (u : HexUnit) : State := { s with hex := u }

/-- Put other register contents in a state. -/
def State.withCsr (s : State) (c : Csr) : State := { s with csr := c }

/-- Answer the host (R84, R300, R301). -/
def State.withReply (s : State) (r : Reply) : State := { s with reply := some r }

/-! Row buffers (R53). -/

/-- Element `i` of a buffer: what was written there since the last reset, else the free value that the reset
left (R371). -/
def bufRead (free : Nat → Nibble) (b : List Nibble) (i : Nat) : Nibble := (b[i]?).getD (free i)

/-- Elements `0..m-1` of a buffer. -/
def bufTake (free : Nat → Nibble) (b : List Nibble) (m : Nat) : List Nibble :=
  (List.range m).map (bufRead free b)

/-- Write nibble `n` to the elements `p..p+k-1` of a buffer. -/
def bufFill (free : Nat → Nibble) (b : List Nibble) (p k : Nat) (n : Nibble) : List Nibble :=
  bufTake free b p ++ List.replicate k n ++ b.drop (p + k)

/-- Write a list to the elements from 0 of a buffer. -/
def bufCopy (ns b : List Nibble) : List Nibble := ns ++ b.drop ns.length

/-- `rld.cur[i]`. -/
def RldUnit.curAt (u : RldUnit) (i : Nat) : Nibble := bufRead (Config.curAtReset u.epoch) u.cur i

/-- `rld.prev[i]`. -/
def RldUnit.prevAt (u : RldUnit) (i : Nat) : Nibble := bufRead (Config.prevAtReset u.epoch) u.prev i

/-- `rld.cur[p .. p+k-1] <- n`. -/
def RldUnit.fillCur (u : RldUnit) (p k : Nat) (n : Nibble) : RldUnit :=
  { u with cur := bufFill (Config.curAtReset u.epoch) u.cur p k n }

/-- The length of a row in nibble units, 2R (R10). -/
def RldUnit.rowLen (u : RldUnit) : Nat := 2 * u.rb.toNat

/-! Output (R81, R91, R111). -/

/-- A row's beats: ROW_END on the last one alone (R111, R248, R250). -/
def rowBeats : List Byte → List OutBeat
  | [] => []
  | [b] => [⟨b, true⟩]
  | b :: bs => ⟨b, false⟩ :: rowBeats bs

/-- The packed bytes of the current row: byte j is elements 2j and 2j+1 (R53, R245). -/
def RldUnit.rowBytes (u : RldUnit) : List Byte :=
  (List.range u.rb.toNat).map (fun j => packByte (u.curAt (2 * j)) (u.curAt (2 * j + 1)))

/-- The beats a completed row emits, in packed form (R248) or in pixel form (R250). -/
def RldUnit.rowOutput (u : RldUnit) : List OutBeat :=
  if u.pix then rowBeats (u.rowBytes.flatMap pixelBytes) else rowBeats u.rowBytes

/-- The beat the HEX unit offers its consumer, the oldest of its queue (R81, R93). -/
def hexOutBeat (s : State) : Option OutBeat := s.hex.outq.head?

/-- The beat the RLD offers its consumer, the oldest of its queue (R81, R93). -/
def rldOutBeat (s : State) : Option OutBeat := s.rld.outq.head?

/-- The consumer of the HEX output takes the oldest beat, where there is one (R82, R93). -/
def takeHexOut (s : State) : State := s.withHex { s.hex with outq := s.hex.outq.tail }

/-- The consumer of the RLD output takes the oldest beat, where there is one (R82, R93). -/
def takeRldOut (s : State) : State := s.withRld { s.rld with outq := s.rld.outq.tail }

/-! Input hold (R91, R92). -/

/-- Whether the HEX unit accepts an input beat: in RUN, with its output queue empty. -/
def hexInReady (s : State) : Bool := s.hex.state = .run && s.hex.outq.isEmpty

/-- Whether the RLD accepts an input beat: in RUN, with its output queue empty. -/
def rldInReady (s : State) : Bool := s.rld.state = .run && s.rld.outq.isEmpty

/-- A beat at the RLD: accepted, it has its effect on the unit; held, it waits and changes nothing
(R91, R92; log 11). -/
def rldBeat (f : RldUnit → RldUnit) (s : State) : Host.Outcome State Fault Refusal :=
  .next (if rldInReady s then s.withRld (f s.rld) else s)

/-- A beat at the HEX unit: accepted or held, as for the RLD. -/
def hexBeat (f : HexUnit → HexUnit) (s : State) : Host.Outcome State Fault Refusal :=
  .next (if hexInReady s then s.withHex (f s.hex) else s)

/-! Error entry (R340). -/

/-- `raise Error(HEX, kind, detail)`, the kind being the detail's own (R332). -/
def HexUnit.raise (u : HexUnit) (d : Detail) : HexUnit :=
  { u with state := .error, err := d.kind, detail := d }

/-- `raise Error(RLD, kind, detail)`, the kind being the detail's own (R332). -/
def RldUnit.raise (u : RldUnit) (d : Detail) : RldUnit :=
  { u with state := .error, err := d.kind, detail := d }

/-! Completing a row (R245). -/

/-- `CompleteRow()` (R245). -/
def RldUnit.completeRow (u : RldUnit) : RldUnit :=
  { u with
    outq := u.outq ++ u.rowOutput
    prev := bufCopy (bufTake (Config.curAtReset u.epoch) u.cur u.rowLen) u.prev
    hasPrev := true
    cursor := 0
    rows := u.rows + 1 }

/-! Char beats (R270). -/

/-- The first line of the prologue: every accepted Char beat is counted (R44, R270). -/
def RldUnit.countChar (u : RldUnit) : RldUnit := { u with bodycnt := u.bodycnt + 1 }

/-- A character of class INVALID (R270, R284). -/
def charInvalid (u : RldUnit) : RldUnit := u.countChar.raise .badChar

/-- A character of class SKIP (R270, R285). -/
def charSkip (u : RldUnit) : RldUnit := u.countChar

/-- The prologue of every other class: EXTRA_DATA after the last row, else the class's own rule
(R270, R271). -/
def charBody (f : RldUnit → RldUnit) (u : RldUnit) : RldUnit :=
  if u.rows = u.height then u.countChar.raise .extraData else f u.countChar

/-- The rule of the multiplier characters, with their count (R272, R273). The sum is exact (R286). -/
def addMult (v : Nat) (u : RldUnit) : RldUnit :=
  if u.rowLen - u.cursor.toNat < u.counter.toNat + v then u.raise .runOverflow
  else { u with counter := BitVec.ofNat 17 (u.counter.toNat + v) }

/-- `PlaceData(n)` (R277). -/
def placeData (n : Nibble) (u : RldUnit) : RldUnit :=
  let k := max u.counter.toNat 1
  if u.rowLen < u.cursor.toNat + k then u.raise .runOverflow
  else
    let placed :=
      { u.fillCur u.cursor.toNat k n with
        cursor := BitVec.ofNat 17 (u.cursor.toNat + k), counter := 0 }
    if u.cursor.toNat + k = u.rowLen then placed.completeRow else placed

/-- `Fill(n)` (R280). The cursor passes through 2R, which CompleteRow sets back to 0. -/
def fillRow (n : Nibble) (u : RldUnit) : RldUnit :=
  if u.counter ≠ 0 then u.raise .countAtTerminator
  else (u.fillCur u.cursor.toNat (u.rowLen - u.cursor.toNat) n).completeRow

/-- `rld.cur[0 .. 2R-1] <- rld.prev[0 .. 2R-1]` (R282). -/
def RldUnit.copyPrev (u : RldUnit) : RldUnit :=
  { u with cur := bufCopy (bufTake (Config.prevAtReset u.epoch) u.prev u.rowLen) u.cur }

/-- The rule of `:` (R282), its checks in the order of R338. -/
def repeatPrev (u : RldUnit) : RldUnit :=
  if u.hasPrev = false then u.raise .repeatNoPrev
  else if u.counter ≠ 0 then u.raise .countAtTerminator
  else if u.cursor ≠ 0 then u.raise .repeatMidRow
  else u.copyPrev.completeRow

/-- A multiplier character (R272, R273). -/
def charMult (v : Nat) (u : RldUnit) : RldUnit := charBody (addMult v) u

/-- A data character (R274, R275, R276). -/
def charData (n : Nibble) (u : RldUnit) : RldUnit := charBody (placeData n) u

/-- A fill marker (R278, R279). -/
def charFill (n : Nibble) (u : RldUnit) : RldUnit := charBody (fillRow n) u

/-- The row repeat marker (R282). -/
def charRepeat (u : RldUnit) : RldUnit := charBody repeatPrev u

/-! The End beat (R246), start and abort (R241, R243). -/

/-- The End beat, its checks in the order of R338 (R246). -/
def endBody (u : RldUnit) : RldUnit :=
  if u.counter ≠ 0 then u.raise .countAtEnd
  else if u.rows.toNat < u.height.toNat then u.raise .shortBody
  else if u.bodylen ≠ 0 ∧ u.bodycnt ≠ u.bodylen then u.raise .bodylenMismatch
  else { u with state := .done }

/-- What every RLD_START latches and clears before its checks (R241). -/
def RldUnit.latch (u : RldUnit) (c : Csr) : RldUnit :=
  { u with
    rb := c.rowbytes
    pix := c.rldPixel
    bodylen := c.bodylen
    rows := 0
    cursor := 0
    counter := 0
    hasPrev := false
    bodycnt := 0
    err := .none
    detail := .none
    height := 0 }

/-- RLD_START, its checks in the order of R338 (R241, R242). -/
def rldStart (c : Csr) (u : RldUnit) : RldUnit :=
  let r := c.rowbytes.toNat
  let t := c.total.toNat
  let l := u.latch c
  if r = 0 then l.raise .rZero
  else if Config.rbMax < r then l.raise .rAboveMax
  else if t = 0 then l.raise .totalZero
  else if t % r ≠ 0 then l.raise .totalNotMultiple
  else { l with height := BitVec.ofNat 32 (t / r), state := .run }

/-- RLD_ABORT (R243). -/
def rldAbort (u : RldUnit) : RldUnit := { u with state := .idle }

/-! The HEX unit (R182, R183, R184). -/

/-- HEX_START (R182). -/
def hexStart (c : Csr) (u : HexUnit) : HexUnit :=
  let l : HexUnit :=
    { u with rb := c.rowbytes, upper := c.hexUpper, idx := 0, rows := 0, err := .none, detail := .none }
  if c.rowbytes = 0 then l.raise .rZero else { l with state := .run }

/-- HEX_STOP (R183). -/
def hexStop (u : HexUnit) : HexUnit := { u with state := .idle, idx := 0 }

/-- HEX_BYTE (R184). The end of a row is `idx = R - 1`, over the naturals (R9). -/
def hexByte (last : Bool) (b : Byte) (u : HexUnit) : HexUnit :=
  let rowEnd : Bool := u.idx.toNat + 1 = u.rb.toNat
  if last ≠ rowEnd then u.raise .hexLastMismatch
  else
    let u := { u with
      outq := u.outq ++ ([⟨hexChar (hiNibble b) u.upper, false⟩,
        ⟨hexChar (loNibble b) u.upper, rowEnd⟩] : List OutBeat) }
    if rowEnd then { u with idx := 0, rows := u.rows + 1 } else { u with idx := u.idx + 1 }

/-! Host accesses (R300, R301, R302). -/

/-- `CsrRead(a)` (R300): the answer, and no other effect (R89). -/
def csrRead (a : BitVec 8) (s : State) : State :=
  s.withReply (if busError a then .read 0 true else .read (csrView a s) false)

/-- The register a write stores to (R301): the one RW register addressed, if any. -/
def csrStore (a : BitVec 8) (d : Word32) (c : Csr) : Csr :=
  match a.toNat with
  | 0x04 => { c with rowbytes := d.setWidth 16 }
  | 0x08 => { c with total := d }
  | 0x0C => { c with bodylen := d }
  | 0x30 => { c with lutCount := d.setWidth 16 }
  | 0x38 => { c with lutChar := d.setWidth 8 }
  | _ => c

/-- `CtrlWrite(d)` (R302): store bits 2:0, then the HEX action, then the RLD action; a start has priority
over an abort (R244). -/
def ctrlWrite (d : Word32) (s : State) : State :=
  let c := { s.csr with hexEn := d.getLsbD 0, hexUpper := d.getLsbD 1, rldPixel := d.getLsbD 2 }
  let h :=
    if s.csr.hexEn = false ∧ d.getLsbD 0 = true then hexStart c s.hex
    else if s.csr.hexEn = true ∧ d.getLsbD 0 = false then hexStop s.hex
    else s.hex
  let r :=
    if d.getLsbD 8 then rldStart c s.rld
    else if d.getLsbD 9 then rldAbort s.rld
    else s.rld
  (((s.withCsr c).withHex h).withRld r).withReply (.write false)

/-- A host write: `CtrlWrite` at 0x00, `CsrWrite` at any other address (R301, R302); a bus error stores
nothing (R84). -/
def hostWrite (a : BitVec 8) (d : Word32) (s : State) : State :=
  if a = 0x00#8 then ctrlWrite d s
  else if busError a then s.withReply (.write true)
  else (s.withCsr (csrStore a d s.csr)).withReply (.write false)

/-! Reset (R370). -/

/-- The reset line, one step: every piece of the block's state takes its reset value; the row buffers hold
new free values (R371), and what is presented at the input ports stays presented (log 13). -/
def resetBlock (s : State) : State :=
  { s with
    csr := Csr.reset
    hex := HexUnit.reset
    rld := RldUnit.reset (s.rld.epoch + 1)
    reply := none }

end Sys2Proof.Machine
end

