-- ==== Sys2Proof/Machine/Alut.lean ====
section
/-! DEFINITION. The alphabet lookups as the host reaches them (spec/40_alphabet_lut.md R150..R159,
spec/45_host_interface.md R303). The functions themselves are `alutEncode` and `alutDecode` of
Machine/Operands.lean, and LUT_TOKEN and LUT_VALUE are their views in Machine/Flags.lean. -/

namespace Sys2Proof.Machine

/-- LUT_ENCODE (R154, R303): the write of LUT_COUNT; LUT_TOKEN then reads the result (log 7). -/
def execLutEncode (d : Word32) (s : State) : Host.Outcome State Fault Refusal := .next (hostWrite 0x30#8 d s)

/-- LUT_DECODE (R156, R303): the write of LUT_CHAR; LUT_VALUE then reads the result (log 7). -/
def execLutDecode (d : Word32) (s : State) : Host.Outcome State Fault Refusal := .next (hostWrite 0x38#8 d s)

end Sys2Proof.Machine
end

