-- ==== Sys2Proof/Machine/Hex.lean ====
section
/-! DEFINITION. The HEX unit: the byte operation, start and stop (spec/41_row_hex_encoder.md R182..R188). -/

namespace Sys2Proof.Machine

/-- HEX_BYTE (R184). -/
def execHexByte (last : Bool) (b : Byte) (s : State) : Host.Outcome State Fault Refusal :=
  hexBeat (hexByte last b) s

/-- HEX_START (R182), a CTRL write that changes HEX_EN from 0 to 1 (R302). Where HEX_EN is 1 already it is no
start and stores CTRL alone. -/
def execHexStart (d : Word32) (s : State) : Host.Outcome State Fault Refusal := .next (ctrlWrite d s)

/-- HEX_STOP (R183), a CTRL write that changes HEX_EN from 1 to 0 (R302). Where HEX_EN is 0 already it is no
stop and stores CTRL alone. -/
def execHexStop (d : Word32) (s : State) : Host.Outcome State Fault Refusal := .next (ctrlWrite d s)

end Sys2Proof.Machine
end

