-- ==== Sys2Proof/Machine/HostAccess.lean ====
section
/-! DEFINITION. The host's accesses (spec/45_host_interface.md R300..R302). -/

namespace Sys2Proof.Machine

/-- CSR_READ (R300): the DATA bits are ignored (R110). -/
def execCsrRead (a : BitVec 8) (_d : Word32) (s : State) : Host.Outcome State Fault Refusal :=
  .next (csrRead a s)

/-- CSR_WRITE (R301). -/
def execCsrWrite (a : BitVec 8) (d : Word32) (s : State) : Host.Outcome State Fault Refusal :=
  .next (hostWrite a d s)

/-- CTRL_WRITE (R302). -/
def execCtrlWrite (d : Word32) (s : State) : Host.Outcome State Fault Refusal := .next (ctrlWrite d s)

end Sys2Proof.Machine
end

