-- ==== Sys2Proof/Machine/RldControl.lean ====
section
/-! DEFINITION. RLD control: the End beat, start and abort (spec/43_rld_control.md R241, R243, R246). -/

namespace Sys2Proof.Machine

/-- END (R246): the CHAR bits of the beat are ignored (R112). -/
def execEndBeat (_char : Byte) (s : State) : Host.Outcome State Fault Refusal := rldBeat endBody s

/-- RLD_START (R241), a CTRL write with DATA[8] = 1 (R302). -/
def execRldStart (d : Word32) (s : State) : Host.Outcome State Fault Refusal := .next (ctrlWrite d s)

/-- RLD_ABORT (R243), a CTRL write with DATA[9] = 1 and DATA[8] = 0 (R302). -/
def execRldAbort (d : Word32) (s : State) : Host.Outcome State Fault Refusal := .next (ctrlWrite d s)

end Sys2Proof.Machine
end

