-- ==== Sys2Proof/Machine/RldSymbols.lean ====
section
/-! DEFINITION. The body character operations of the RLD, one meaning per row of the opcode table
(spec/44_rld_symbols.md R270..R285), each over the shared operations of Machine/Ops.lean. -/

namespace Sys2Proof.Machine

/-! Control codes and punctuation, 0x00..0x2F. -/

/-- R284: INVALID NUL (0x00). -/
def execInvalid0x00 (s : State) : Host.Outcome State Fault Refusal := rldBeat charInvalid s

/-- R284: INVALID 0x01 (0x01). -/
def execInvalid0x01 (s : State) : Host.Outcome State Fault Refusal := rldBeat charInvalid s

/-- R284: INVALID 0x02 (0x02). -/
def execInvalid0x02 (s : State) : Host.Outcome State Fault Refusal := rldBeat charInvalid s

/-- R284: INVALID 0x03 (0x03). -/
def execInvalid0x03 (s : State) : Host.Outcome State Fault Refusal := rldBeat charInvalid s

/-- R284: INVALID 0x04 (0x04). -/
def execInvalid0x04 (s : State) : Host.Outcome State Fault Refusal := rldBeat charInvalid s

/-- R284: INVALID 0x05 (0x05). -/
def execInvalid0x05 (s : State) : Host.Outcome State Fault Refusal := rldBeat charInvalid s

/-- R284: INVALID 0x06 (0x06). -/
def execInvalid0x06 (s : State) : Host.Outcome State Fault Refusal := rldBeat charInvalid s

/-- R284: INVALID 0x07 (0x07). -/
def execInvalid0x07 (s : State) : Host.Outcome State Fault Refusal := rldBeat charInvalid s

/-- R284: INVALID 0x08 (0x08). -/
def execInvalid0x08 (s : State) : Host.Outcome State Fault Refusal := rldBeat charInvalid s

/-- R284: INVALID TAB (0x09). -/
def execInvalid0x09 (s : State) : Host.Outcome State Fault Refusal := rldBeat charInvalid s

/-- R285: SKIP LF (0x0A). -/
def execSkipLf (s : State) : Host.Outcome State Fault Refusal := rldBeat charSkip s

/-- R284: INVALID 0x0B (0x0B). -/
def execInvalid0x0B (s : State) : Host.Outcome State Fault Refusal := rldBeat charInvalid s

/-- R284: INVALID 0x0C (0x0C). -/
def execInvalid0x0C (s : State) : Host.Outcome State Fault Refusal := rldBeat charInvalid s

/-- R285: SKIP CR (0x0D). -/
def execSkipCr (s : State) : Host.Outcome State Fault Refusal := rldBeat charSkip s

/-- R284: INVALID 0x0E (0x0E). -/
def execInvalid0x0E (s : State) : Host.Outcome State Fault Refusal := rldBeat charInvalid s

/-- R284: INVALID 0x0F (0x0F). -/
def execInvalid0x0F (s : State) : Host.Outcome State Fault Refusal := rldBeat charInvalid s

/-- R284: INVALID 0x10 (0x10). -/
def execInvalid0x10 (s : State) : Host.Outcome State Fault Refusal := rldBeat charInvalid s

/-- R284: INVALID 0x11 (0x11). -/
def execInvalid0x11 (s : State) : Host.Outcome State Fault Refusal := rldBeat charInvalid s

/-- R284: INVALID 0x12 (0x12). -/
def execInvalid0x12 (s : State) : Host.Outcome State Fault Refusal := rldBeat charInvalid s

/-- R284: INVALID 0x13 (0x13). -/
def execInvalid0x13 (s : State) : Host.Outcome State Fault Refusal := rldBeat charInvalid s

/-- R284: INVALID 0x14 (0x14). -/
def execInvalid0x14 (s : State) : Host.Outcome State Fault Refusal := rldBeat charInvalid s

/-- R284: INVALID 0x15 (0x15). -/
def execInvalid0x15 (s : State) : Host.Outcome State Fault Refusal := rldBeat charInvalid s

/-- R284: INVALID 0x16 (0x16). -/
def execInvalid0x16 (s : State) : Host.Outcome State Fault Refusal := rldBeat charInvalid s

/-- R284: INVALID 0x17 (0x17). -/
def execInvalid0x17 (s : State) : Host.Outcome State Fault Refusal := rldBeat charInvalid s

/-- R284: INVALID 0x18 (0x18). -/
def execInvalid0x18 (s : State) : Host.Outcome State Fault Refusal := rldBeat charInvalid s

/-- R284: INVALID 0x19 (0x19). -/
def execInvalid0x19 (s : State) : Host.Outcome State Fault Refusal := rldBeat charInvalid s

/-- R284: INVALID 0x1A (0x1A). -/
def execInvalid0x1A (s : State) : Host.Outcome State Fault Refusal := rldBeat charInvalid s

/-- R284: INVALID 0x1B (0x1B). -/
def execInvalid0x1B (s : State) : Host.Outcome State Fault Refusal := rldBeat charInvalid s

/-- R284: INVALID 0x1C (0x1C). -/
def execInvalid0x1C (s : State) : Host.Outcome State Fault Refusal := rldBeat charInvalid s

/-- R284: INVALID 0x1D (0x1D). -/
def execInvalid0x1D (s : State) : Host.Outcome State Fault Refusal := rldBeat charInvalid s

/-- R284: INVALID 0x1E (0x1E). -/
def execInvalid0x1E (s : State) : Host.Outcome State Fault Refusal := rldBeat charInvalid s

/-- R284: INVALID 0x1F (0x1F). -/
def execInvalid0x1F (s : State) : Host.Outcome State Fault Refusal := rldBeat charInvalid s

/-- R284: INVALID SPACE (0x20). -/
def execInvalid0x20 (s : State) : Host.Outcome State Fault Refusal := rldBeat charInvalid s

/-- R279: FILL_BLACK '!' (0x21). -/
def execFillBlack (s : State) : Host.Outcome State Fault Refusal := rldBeat (charFill 0xF#4) s

/-- R284: INVALID '"' (0x22). -/
def execInvalid0x22 (s : State) : Host.Outcome State Fault Refusal := rldBeat charInvalid s

/-- R284: INVALID '#' (0x23). -/
def execInvalid0x23 (s : State) : Host.Outcome State Fault Refusal := rldBeat charInvalid s

/-- R284: INVALID '$' (0x24). -/
def execInvalid0x24 (s : State) : Host.Outcome State Fault Refusal := rldBeat charInvalid s

/-- R284: INVALID '%' (0x25). -/
def execInvalid0x25 (s : State) : Host.Outcome State Fault Refusal := rldBeat charInvalid s

/-- R284: INVALID '&' (0x26). -/
def execInvalid0x26 (s : State) : Host.Outcome State Fault Refusal := rldBeat charInvalid s

/-- R284: INVALID ''' (0x27). -/
def execInvalid0x27 (s : State) : Host.Outcome State Fault Refusal := rldBeat charInvalid s

/-- R284: INVALID '(' (0x28). -/
def execInvalid0x28 (s : State) : Host.Outcome State Fault Refusal := rldBeat charInvalid s

/-- R284: INVALID ')' (0x29). -/
def execInvalid0x29 (s : State) : Host.Outcome State Fault Refusal := rldBeat charInvalid s

/-- R284: INVALID '*' (0x2A). -/
def execInvalid0x2A (s : State) : Host.Outcome State Fault Refusal := rldBeat charInvalid s

/-- R284: INVALID '+' (0x2B). -/
def execInvalid0x2B (s : State) : Host.Outcome State Fault Refusal := rldBeat charInvalid s

/-- R278: FILL_WHITE ',' (0x2C). -/
def execFillWhite (s : State) : Host.Outcome State Fault Refusal := rldBeat (charFill 0x0#4) s

/-- R284: INVALID '-' (0x2D). -/
def execInvalid0x2D (s : State) : Host.Outcome State Fault Refusal := rldBeat charInvalid s

/-- R284: INVALID '.' (0x2E). -/
def execInvalid0x2E (s : State) : Host.Outcome State Fault Refusal := rldBeat charInvalid s

/-- R284: INVALID '/' (0x2F). -/
def execInvalid0x2F (s : State) : Host.Outcome State Fault Refusal := rldBeat charInvalid s

/-! Digits, repeat and punctuation, 0x30..0x40. -/

/-- R274: DATA_DIGIT '0' (0x30). -/
def execDataDigit0 (s : State) : Host.Outcome State Fault Refusal := rldBeat (charData (digitNibble 0x30#8)) s

/-- R274: DATA_DIGIT '1' (0x31). -/
def execDataDigit1 (s : State) : Host.Outcome State Fault Refusal := rldBeat (charData (digitNibble 0x31#8)) s

/-- R274: DATA_DIGIT '2' (0x32). -/
def execDataDigit2 (s : State) : Host.Outcome State Fault Refusal := rldBeat (charData (digitNibble 0x32#8)) s

/-- R274: DATA_DIGIT '3' (0x33). -/
def execDataDigit3 (s : State) : Host.Outcome State Fault Refusal := rldBeat (charData (digitNibble 0x33#8)) s

/-- R274: DATA_DIGIT '4' (0x34). -/
def execDataDigit4 (s : State) : Host.Outcome State Fault Refusal := rldBeat (charData (digitNibble 0x34#8)) s

/-- R274: DATA_DIGIT '5' (0x35). -/
def execDataDigit5 (s : State) : Host.Outcome State Fault Refusal := rldBeat (charData (digitNibble 0x35#8)) s

/-- R274: DATA_DIGIT '6' (0x36). -/
def execDataDigit6 (s : State) : Host.Outcome State Fault Refusal := rldBeat (charData (digitNibble 0x36#8)) s

/-- R274: DATA_DIGIT '7' (0x37). -/
def execDataDigit7 (s : State) : Host.Outcome State Fault Refusal := rldBeat (charData (digitNibble 0x37#8)) s

/-- R274: DATA_DIGIT '8' (0x38). -/
def execDataDigit8 (s : State) : Host.Outcome State Fault Refusal := rldBeat (charData (digitNibble 0x38#8)) s

/-- R274: DATA_DIGIT '9' (0x39). -/
def execDataDigit9 (s : State) : Host.Outcome State Fault Refusal := rldBeat (charData (digitNibble 0x39#8)) s

/-- R282: REPEAT ':' (0x3A). -/
def execRepeatRow (s : State) : Host.Outcome State Fault Refusal := rldBeat charRepeat s

/-- R284: INVALID ';' (0x3B). -/
def execInvalid0x3B (s : State) : Host.Outcome State Fault Refusal := rldBeat charInvalid s

/-- R284: INVALID '<' (0x3C). -/
def execInvalid0x3C (s : State) : Host.Outcome State Fault Refusal := rldBeat charInvalid s

/-- R284: INVALID '=' (0x3D). -/
def execInvalid0x3D (s : State) : Host.Outcome State Fault Refusal := rldBeat charInvalid s

/-- R284: INVALID '>' (0x3E). -/
def execInvalid0x3E (s : State) : Host.Outcome State Fault Refusal := rldBeat charInvalid s

/-- R284: INVALID '?' (0x3F). -/
def execInvalid0x3F (s : State) : Host.Outcome State Fault Refusal := rldBeat charInvalid s

/-- R284: INVALID '@' (0x40). -/
def execInvalid0x40 (s : State) : Host.Outcome State Fault Refusal := rldBeat charInvalid s

/-! Upper-case letters, 0x41..0x60. -/

/-- R276: DATA_UPPER 'A' (0x41). -/
def execDataUpperA (s : State) : Host.Outcome State Fault Refusal := rldBeat (charData (upperNibble 0x41#8)) s

/-- R276: DATA_UPPER 'B' (0x42). -/
def execDataUpperB (s : State) : Host.Outcome State Fault Refusal := rldBeat (charData (upperNibble 0x42#8)) s

/-- R276: DATA_UPPER 'C' (0x43). -/
def execDataUpperC (s : State) : Host.Outcome State Fault Refusal := rldBeat (charData (upperNibble 0x43#8)) s

/-- R276: DATA_UPPER 'D' (0x44). -/
def execDataUpperD (s : State) : Host.Outcome State Fault Refusal := rldBeat (charData (upperNibble 0x44#8)) s

/-- R276: DATA_UPPER 'E' (0x45). -/
def execDataUpperE (s : State) : Host.Outcome State Fault Refusal := rldBeat (charData (upperNibble 0x45#8)) s

/-- R276: DATA_UPPER 'F' (0x46). -/
def execDataUpperF (s : State) : Host.Outcome State Fault Refusal := rldBeat (charData (upperNibble 0x46#8)) s

/-- R272: MULT_LOW 'G' (0x47). -/
def execMultLowG (s : State) : Host.Outcome State Fault Refusal := rldBeat (charMult (multCount 0x47#8)) s

/-- R272: MULT_LOW 'H' (0x48). -/
def execMultLowH (s : State) : Host.Outcome State Fault Refusal := rldBeat (charMult (multCount 0x48#8)) s

/-- R272: MULT_LOW 'I' (0x49). -/
def execMultLowI (s : State) : Host.Outcome State Fault Refusal := rldBeat (charMult (multCount 0x49#8)) s

/-- R272: MULT_LOW 'J' (0x4A). -/
def execMultLowJ (s : State) : Host.Outcome State Fault Refusal := rldBeat (charMult (multCount 0x4A#8)) s

/-- R272: MULT_LOW 'K' (0x4B). -/
def execMultLowK (s : State) : Host.Outcome State Fault Refusal := rldBeat (charMult (multCount 0x4B#8)) s

/-- R272: MULT_LOW 'L' (0x4C). -/
def execMultLowL (s : State) : Host.Outcome State Fault Refusal := rldBeat (charMult (multCount 0x4C#8)) s

/-- R272: MULT_LOW 'M' (0x4D). -/
def execMultLowM (s : State) : Host.Outcome State Fault Refusal := rldBeat (charMult (multCount 0x4D#8)) s

/-- R272: MULT_LOW 'N' (0x4E). -/
def execMultLowN (s : State) : Host.Outcome State Fault Refusal := rldBeat (charMult (multCount 0x4E#8)) s

/-- R272: MULT_LOW 'O' (0x4F). -/
def execMultLowO (s : State) : Host.Outcome State Fault Refusal := rldBeat (charMult (multCount 0x4F#8)) s

/-- R272: MULT_LOW 'P' (0x50). -/
def execMultLowP (s : State) : Host.Outcome State Fault Refusal := rldBeat (charMult (multCount 0x50#8)) s

/-- R272: MULT_LOW 'Q' (0x51). -/
def execMultLowQ (s : State) : Host.Outcome State Fault Refusal := rldBeat (charMult (multCount 0x51#8)) s

/-- R272: MULT_LOW 'R' (0x52). -/
def execMultLowR (s : State) : Host.Outcome State Fault Refusal := rldBeat (charMult (multCount 0x52#8)) s

/-- R272: MULT_LOW 'S' (0x53). -/
def execMultLowS (s : State) : Host.Outcome State Fault Refusal := rldBeat (charMult (multCount 0x53#8)) s

/-- R272: MULT_LOW 'T' (0x54). -/
def execMultLowT (s : State) : Host.Outcome State Fault Refusal := rldBeat (charMult (multCount 0x54#8)) s

/-- R272: MULT_LOW 'U' (0x55). -/
def execMultLowU (s : State) : Host.Outcome State Fault Refusal := rldBeat (charMult (multCount 0x55#8)) s

/-- R272: MULT_LOW 'V' (0x56). -/
def execMultLowV (s : State) : Host.Outcome State Fault Refusal := rldBeat (charMult (multCount 0x56#8)) s

/-- R272: MULT_LOW 'W' (0x57). -/
def execMultLowW (s : State) : Host.Outcome State Fault Refusal := rldBeat (charMult (multCount 0x57#8)) s

/-- R272: MULT_LOW 'X' (0x58). -/
def execMultLowX (s : State) : Host.Outcome State Fault Refusal := rldBeat (charMult (multCount 0x58#8)) s

/-- R272: MULT_LOW 'Y' (0x59). -/
def execMultLowY (s : State) : Host.Outcome State Fault Refusal := rldBeat (charMult (multCount 0x59#8)) s

/-- R284: INVALID 'Z' (0x5A). -/
def execInvalid0x5A (s : State) : Host.Outcome State Fault Refusal := rldBeat charInvalid s

/-- R284: INVALID '[' (0x5B). -/
def execInvalid0x5B (s : State) : Host.Outcome State Fault Refusal := rldBeat charInvalid s

/-- R284: INVALID '\' (0x5C). -/
def execInvalid0x5C (s : State) : Host.Outcome State Fault Refusal := rldBeat charInvalid s

/-- R284: INVALID ']' (0x5D). -/
def execInvalid0x5D (s : State) : Host.Outcome State Fault Refusal := rldBeat charInvalid s

/-- R284: INVALID '^' (0x5E). -/
def execInvalid0x5E (s : State) : Host.Outcome State Fault Refusal := rldBeat charInvalid s

/-- R284: INVALID '_' (0x5F). -/
def execInvalid0x5F (s : State) : Host.Outcome State Fault Refusal := rldBeat charInvalid s

/-- R284: INVALID '`' (0x60). -/
def execInvalid0x60 (s : State) : Host.Outcome State Fault Refusal := rldBeat charInvalid s

/-! Lower-case letters, 0x61..0x7F. -/

/-- R275: DATA_LOWER 'a' (0x61). -/
def execDataLowerA (s : State) : Host.Outcome State Fault Refusal := rldBeat (charData (lowerNibble 0x61#8)) s

/-- R275: DATA_LOWER 'b' (0x62). -/
def execDataLowerB (s : State) : Host.Outcome State Fault Refusal := rldBeat (charData (lowerNibble 0x62#8)) s

/-- R275: DATA_LOWER 'c' (0x63). -/
def execDataLowerC (s : State) : Host.Outcome State Fault Refusal := rldBeat (charData (lowerNibble 0x63#8)) s

/-- R275: DATA_LOWER 'd' (0x64). -/
def execDataLowerD (s : State) : Host.Outcome State Fault Refusal := rldBeat (charData (lowerNibble 0x64#8)) s

/-- R275: DATA_LOWER 'e' (0x65). -/
def execDataLowerE (s : State) : Host.Outcome State Fault Refusal := rldBeat (charData (lowerNibble 0x65#8)) s

/-- R275: DATA_LOWER 'f' (0x66). -/
def execDataLowerF (s : State) : Host.Outcome State Fault Refusal := rldBeat (charData (lowerNibble 0x66#8)) s

/-- R273: MULT_HIGH 'g' (0x67). -/
def execMultHighG (s : State) : Host.Outcome State Fault Refusal := rldBeat (charMult (multCount 0x67#8)) s

/-- R273: MULT_HIGH 'h' (0x68). -/
def execMultHighH (s : State) : Host.Outcome State Fault Refusal := rldBeat (charMult (multCount 0x68#8)) s

/-- R273: MULT_HIGH 'i' (0x69). -/
def execMultHighI (s : State) : Host.Outcome State Fault Refusal := rldBeat (charMult (multCount 0x69#8)) s

/-- R273: MULT_HIGH 'j' (0x6A). -/
def execMultHighJ (s : State) : Host.Outcome State Fault Refusal := rldBeat (charMult (multCount 0x6A#8)) s

/-- R273: MULT_HIGH 'k' (0x6B). -/
def execMultHighK (s : State) : Host.Outcome State Fault Refusal := rldBeat (charMult (multCount 0x6B#8)) s

/-- R273: MULT_HIGH 'l' (0x6C). -/
def execMultHighL (s : State) : Host.Outcome State Fault Refusal := rldBeat (charMult (multCount 0x6C#8)) s

/-- R273: MULT_HIGH 'm' (0x6D). -/
def execMultHighM (s : State) : Host.Outcome State Fault Refusal := rldBeat (charMult (multCount 0x6D#8)) s

/-- R273: MULT_HIGH 'n' (0x6E). -/
def execMultHighN (s : State) : Host.Outcome State Fault Refusal := rldBeat (charMult (multCount 0x6E#8)) s

/-- R273: MULT_HIGH 'o' (0x6F). -/
def execMultHighO (s : State) : Host.Outcome State Fault Refusal := rldBeat (charMult (multCount 0x6F#8)) s

/-- R273: MULT_HIGH 'p' (0x70). -/
def execMultHighP (s : State) : Host.Outcome State Fault Refusal := rldBeat (charMult (multCount 0x70#8)) s

/-- R273: MULT_HIGH 'q' (0x71). -/
def execMultHighQ (s : State) : Host.Outcome State Fault Refusal := rldBeat (charMult (multCount 0x71#8)) s

/-- R273: MULT_HIGH 'r' (0x72). -/
def execMultHighR (s : State) : Host.Outcome State Fault Refusal := rldBeat (charMult (multCount 0x72#8)) s

/-- R273: MULT_HIGH 's' (0x73). -/
def execMultHighS (s : State) : Host.Outcome State Fault Refusal := rldBeat (charMult (multCount 0x73#8)) s

/-- R273: MULT_HIGH 't' (0x74). -/
def execMultHighT (s : State) : Host.Outcome State Fault Refusal := rldBeat (charMult (multCount 0x74#8)) s

/-- R273: MULT_HIGH 'u' (0x75). -/
def execMultHighU (s : State) : Host.Outcome State Fault Refusal := rldBeat (charMult (multCount 0x75#8)) s

/-- R273: MULT_HIGH 'v' (0x76). -/
def execMultHighV (s : State) : Host.Outcome State Fault Refusal := rldBeat (charMult (multCount 0x76#8)) s

/-- R273: MULT_HIGH 'w' (0x77). -/
def execMultHighW (s : State) : Host.Outcome State Fault Refusal := rldBeat (charMult (multCount 0x77#8)) s

/-- R273: MULT_HIGH 'x' (0x78). -/
def execMultHighX (s : State) : Host.Outcome State Fault Refusal := rldBeat (charMult (multCount 0x78#8)) s

/-- R273: MULT_HIGH 'y' (0x79). -/
def execMultHighY (s : State) : Host.Outcome State Fault Refusal := rldBeat (charMult (multCount 0x79#8)) s

/-- R273: MULT_HIGH 'z' (0x7A). -/
def execMultHighZ (s : State) : Host.Outcome State Fault Refusal := rldBeat (charMult (multCount 0x7A#8)) s

/-- R284: INVALID left brace (0x7B). -/
def execInvalid0x7B (s : State) : Host.Outcome State Fault Refusal := rldBeat charInvalid s

/-- R284: INVALID '|' (0x7C). -/
def execInvalid0x7C (s : State) : Host.Outcome State Fault Refusal := rldBeat charInvalid s

/-- R284: INVALID right brace (0x7D). -/
def execInvalid0x7D (s : State) : Host.Outcome State Fault Refusal := rldBeat charInvalid s

/-- R284: INVALID '~' (0x7E). -/
def execInvalid0x7E (s : State) : Host.Outcome State Fault Refusal := rldBeat charInvalid s

/-- R284: INVALID DEL (0x7F). -/
def execInvalid0x7F (s : State) : Host.Outcome State Fault Refusal := rldBeat charInvalid s

/-! Codes with bit 7 set, 0x80..0xFF. -/

/-- R284: INVALID 0x80 (0x80). -/
def execInvalid0x80 (s : State) : Host.Outcome State Fault Refusal := rldBeat charInvalid s

/-- R284: INVALID 0x81 (0x81). -/
def execInvalid0x81 (s : State) : Host.Outcome State Fault Refusal := rldBeat charInvalid s

/-- R284: INVALID 0x82 (0x82). -/
def execInvalid0x82 (s : State) : Host.Outcome State Fault Refusal := rldBeat charInvalid s

/-- R284: INVALID 0x83 (0x83). -/
def execInvalid0x83 (s : State) : Host.Outcome State Fault Refusal := rldBeat charInvalid s

/-- R284: INVALID 0x84 (0x84). -/
def execInvalid0x84 (s : State) : Host.Outcome State Fault Refusal := rldBeat charInvalid s

/-- R284: INVALID 0x85 (0x85). -/
def execInvalid0x85 (s : State) : Host.Outcome State Fault Refusal := rldBeat charInvalid s

/-- R284: INVALID 0x86 (0x86). -/
def execInvalid0x86 (s : State) : Host.Outcome State Fault Refusal := rldBeat charInvalid s

/-- R284: INVALID 0x87 (0x87). -/
def execInvalid0x87 (s : State) : Host.Outcome State Fault Refusal := rldBeat charInvalid s

/-- R284: INVALID 0x88 (0x88). -/
def execInvalid0x88 (s : State) : Host.Outcome State Fault Refusal := rldBeat charInvalid s

/-- R284: INVALID 0x89 (0x89). -/
def execInvalid0x89 (s : State) : Host.Outcome State Fault Refusal := rldBeat charInvalid s

/-- R284: INVALID 0x8A (0x8A). -/
def execInvalid0x8A (s : State) : Host.Outcome State Fault Refusal := rldBeat charInvalid s

/-- R284: INVALID 0x8B (0x8B). -/
def execInvalid0x8B (s : State) : Host.Outcome State Fault Refusal := rldBeat charInvalid s

/-- R284: INVALID 0x8C (0x8C). -/
def execInvalid0x8C (s : State) : Host.Outcome State Fault Refusal := rldBeat charInvalid s

/-- R284: INVALID 0x8D (0x8D). -/
def execInvalid0x8D (s : State) : Host.Outcome State Fault Refusal := rldBeat charInvalid s

/-- R284: INVALID 0x8E (0x8E). -/
def execInvalid0x8E (s : State) : Host.Outcome State Fault Refusal := rldBeat charInvalid s

/-- R284: INVALID 0x8F (0x8F). -/
def execInvalid0x8F (s : State) : Host.Outcome State Fault Refusal := rldBeat charInvalid s

/-- R284: INVALID 0x90 (0x90). -/
def execInvalid0x90 (s : State) : Host.Outcome State Fault Refusal := rldBeat charInvalid s

/-- R284: INVALID 0x91 (0x91). -/
def execInvalid0x91 (s : State) : Host.Outcome State Fault Refusal := rldBeat charInvalid s

/-- R284: INVALID 0x92 (0x92). -/
def execInvalid0x92 (s : State) : Host.Outcome State Fault Refusal := rldBeat charInvalid s

/-- R284: INVALID 0x93 (0x93). -/
def execInvalid0x93 (s : State) : Host.Outcome State Fault Refusal := rldBeat charInvalid s

/-- R284: INVALID 0x94 (0x94). -/
def execInvalid0x94 (s : State) : Host.Outcome State Fault Refusal := rldBeat charInvalid s

/-- R284: INVALID 0x95 (0x95). -/
def execInvalid0x95 (s : State) : Host.Outcome State Fault Refusal := rldBeat charInvalid s

/-- R284: INVALID 0x96 (0x96). -/
def execInvalid0x96 (s : State) : Host.Outcome State Fault Refusal := rldBeat charInvalid s

/-- R284: INVALID 0x97 (0x97). -/
def execInvalid0x97 (s : State) : Host.Outcome State Fault Refusal := rldBeat charInvalid s

/-- R284: INVALID 0x98 (0x98). -/
def execInvalid0x98 (s : State) : Host.Outcome State Fault Refusal := rldBeat charInvalid s

/-- R284: INVALID 0x99 (0x99). -/
def execInvalid0x99 (s : State) : Host.Outcome State Fault Refusal := rldBeat charInvalid s

/-- R284: INVALID 0x9A (0x9A). -/
def execInvalid0x9A (s : State) : Host.Outcome State Fault Refusal := rldBeat charInvalid s

/-- R284: INVALID 0x9B (0x9B). -/
def execInvalid0x9B (s : State) : Host.Outcome State Fault Refusal := rldBeat charInvalid s

/-- R284: INVALID 0x9C (0x9C). -/
def execInvalid0x9C (s : State) : Host.Outcome State Fault Refusal := rldBeat charInvalid s

/-- R284: INVALID 0x9D (0x9D). -/
def execInvalid0x9D (s : State) : Host.Outcome State Fault Refusal := rldBeat charInvalid s

/-- R284: INVALID 0x9E (0x9E). -/
def execInvalid0x9E (s : State) : Host.Outcome State Fault Refusal := rldBeat charInvalid s

/-- R284: INVALID 0x9F (0x9F). -/
def execInvalid0x9F (s : State) : Host.Outcome State Fault Refusal := rldBeat charInvalid s

/-- R284: INVALID 0xA0 (0xA0). -/
def execInvalid0xA0 (s : State) : Host.Outcome State Fault Refusal := rldBeat charInvalid s

/-- R284: INVALID 0xA1 (0xA1). -/
def execInvalid0xA1 (s : State) : Host.Outcome State Fault Refusal := rldBeat charInvalid s

/-- R284: INVALID 0xA2 (0xA2). -/
def execInvalid0xA2 (s : State) : Host.Outcome State Fault Refusal := rldBeat charInvalid s

/-- R284: INVALID 0xA3 (0xA3). -/
def execInvalid0xA3 (s : State) : Host.Outcome State Fault Refusal := rldBeat charInvalid s

/-- R284: INVALID 0xA4 (0xA4). -/
def execInvalid0xA4 (s : State) : Host.Outcome State Fault Refusal := rldBeat charInvalid s

/-- R284: INVALID 0xA5 (0xA5). -/
def execInvalid0xA5 (s : State) : Host.Outcome State Fault Refusal := rldBeat charInvalid s

/-- R284: INVALID 0xA6 (0xA6). -/
def execInvalid0xA6 (s : State) : Host.Outcome State Fault Refusal := rldBeat charInvalid s

/-- R284: INVALID 0xA7 (0xA7). -/
def execInvalid0xA7 (s : State) : Host.Outcome State Fault Refusal := rldBeat charInvalid s

/-- R284: INVALID 0xA8 (0xA8). -/
def execInvalid0xA8 (s : State) : Host.Outcome State Fault Refusal := rldBeat charInvalid s

/-- R284: INVALID 0xA9 (0xA9). -/
def execInvalid0xA9 (s : State) : Host.Outcome State Fault Refusal := rldBeat charInvalid s

/-- R284: INVALID 0xAA (0xAA). -/
def execInvalid0xAA (s : State) : Host.Outcome State Fault Refusal := rldBeat charInvalid s

/-- R284: INVALID 0xAB (0xAB). -/
def execInvalid0xAB (s : State) : Host.Outcome State Fault Refusal := rldBeat charInvalid s

/-- R284: INVALID 0xAC (0xAC). -/
def execInvalid0xAC (s : State) : Host.Outcome State Fault Refusal := rldBeat charInvalid s

/-- R284: INVALID 0xAD (0xAD). -/
def execInvalid0xAD (s : State) : Host.Outcome State Fault Refusal := rldBeat charInvalid s

/-- R284: INVALID 0xAE (0xAE). -/
def execInvalid0xAE (s : State) : Host.Outcome State Fault Refusal := rldBeat charInvalid s

/-- R284: INVALID 0xAF (0xAF). -/
def execInvalid0xAF (s : State) : Host.Outcome State Fault Refusal := rldBeat charInvalid s

/-- R284: INVALID 0xB0 (0xB0). -/
def execInvalid0xB0 (s : State) : Host.Outcome State Fault Refusal := rldBeat charInvalid s

/-- R284: INVALID 0xB1 (0xB1). -/
def execInvalid0xB1 (s : State) : Host.Outcome State Fault Refusal := rldBeat charInvalid s

/-- R284: INVALID 0xB2 (0xB2). -/
def execInvalid0xB2 (s : State) : Host.Outcome State Fault Refusal := rldBeat charInvalid s

/-- R284: INVALID 0xB3 (0xB3). -/
def execInvalid0xB3 (s : State) : Host.Outcome State Fault Refusal := rldBeat charInvalid s

/-- R284: INVALID 0xB4 (0xB4). -/
def execInvalid0xB4 (s : State) : Host.Outcome State Fault Refusal := rldBeat charInvalid s

/-- R284: INVALID 0xB5 (0xB5). -/
def execInvalid0xB5 (s : State) : Host.Outcome State Fault Refusal := rldBeat charInvalid s

/-- R284: INVALID 0xB6 (0xB6). -/
def execInvalid0xB6 (s : State) : Host.Outcome State Fault Refusal := rldBeat charInvalid s

/-- R284: INVALID 0xB7 (0xB7). -/
def execInvalid0xB7 (s : State) : Host.Outcome State Fault Refusal := rldBeat charInvalid s

/-- R284: INVALID 0xB8 (0xB8). -/
def execInvalid0xB8 (s : State) : Host.Outcome State Fault Refusal := rldBeat charInvalid s

/-- R284: INVALID 0xB9 (0xB9). -/
def execInvalid0xB9 (s : State) : Host.Outcome State Fault Refusal := rldBeat charInvalid s

/-- R284: INVALID 0xBA (0xBA). -/
def execInvalid0xBA (s : State) : Host.Outcome State Fault Refusal := rldBeat charInvalid s

/-- R284: INVALID 0xBB (0xBB). -/
def execInvalid0xBB (s : State) : Host.Outcome State Fault Refusal := rldBeat charInvalid s

/-- R284: INVALID 0xBC (0xBC). -/
def execInvalid0xBC (s : State) : Host.Outcome State Fault Refusal := rldBeat charInvalid s

/-- R284: INVALID 0xBD (0xBD). -/
def execInvalid0xBD (s : State) : Host.Outcome State Fault Refusal := rldBeat charInvalid s

/-- R284: INVALID 0xBE (0xBE). -/
def execInvalid0xBE (s : State) : Host.Outcome State Fault Refusal := rldBeat charInvalid s

/-- R284: INVALID 0xBF (0xBF). -/
def execInvalid0xBF (s : State) : Host.Outcome State Fault Refusal := rldBeat charInvalid s

/-- R284: INVALID 0xC0 (0xC0). -/
def execInvalid0xC0 (s : State) : Host.Outcome State Fault Refusal := rldBeat charInvalid s

/-- R284: INVALID 0xC1 (0xC1). -/
def execInvalid0xC1 (s : State) : Host.Outcome State Fault Refusal := rldBeat charInvalid s

/-- R284: INVALID 0xC2 (0xC2). -/
def execInvalid0xC2 (s : State) : Host.Outcome State Fault Refusal := rldBeat charInvalid s

/-- R284: INVALID 0xC3 (0xC3). -/
def execInvalid0xC3 (s : State) : Host.Outcome State Fault Refusal := rldBeat charInvalid s

/-- R284: INVALID 0xC4 (0xC4). -/
def execInvalid0xC4 (s : State) : Host.Outcome State Fault Refusal := rldBeat charInvalid s

/-- R284: INVALID 0xC5 (0xC5). -/
def execInvalid0xC5 (s : State) : Host.Outcome State Fault Refusal := rldBeat charInvalid s

/-- R284: INVALID 0xC6 (0xC6). -/
def execInvalid0xC6 (s : State) : Host.Outcome State Fault Refusal := rldBeat charInvalid s

/-- R284: INVALID 0xC7 (0xC7). -/
def execInvalid0xC7 (s : State) : Host.Outcome State Fault Refusal := rldBeat charInvalid s

/-- R284: INVALID 0xC8 (0xC8). -/
def execInvalid0xC8 (s : State) : Host.Outcome State Fault Refusal := rldBeat charInvalid s

/-- R284: INVALID 0xC9 (0xC9). -/
def execInvalid0xC9 (s : State) : Host.Outcome State Fault Refusal := rldBeat charInvalid s

/-- R284: INVALID 0xCA (0xCA). -/
def execInvalid0xCA (s : State) : Host.Outcome State Fault Refusal := rldBeat charInvalid s

/-- R284: INVALID 0xCB (0xCB). -/
def execInvalid0xCB (s : State) : Host.Outcome State Fault Refusal := rldBeat charInvalid s

/-- R284: INVALID 0xCC (0xCC). -/
def execInvalid0xCC (s : State) : Host.Outcome State Fault Refusal := rldBeat charInvalid s

/-- R284: INVALID 0xCD (0xCD). -/
def execInvalid0xCD (s : State) : Host.Outcome State Fault Refusal := rldBeat charInvalid s

/-- R284: INVALID 0xCE (0xCE). -/
def execInvalid0xCE (s : State) : Host.Outcome State Fault Refusal := rldBeat charInvalid s

/-- R284: INVALID 0xCF (0xCF). -/
def execInvalid0xCF (s : State) : Host.Outcome State Fault Refusal := rldBeat charInvalid s

/-- R284: INVALID 0xD0 (0xD0). -/
def execInvalid0xD0 (s : State) : Host.Outcome State Fault Refusal := rldBeat charInvalid s

/-- R284: INVALID 0xD1 (0xD1). -/
def execInvalid0xD1 (s : State) : Host.Outcome State Fault Refusal := rldBeat charInvalid s

/-- R284: INVALID 0xD2 (0xD2). -/
def execInvalid0xD2 (s : State) : Host.Outcome State Fault Refusal := rldBeat charInvalid s

/-- R284: INVALID 0xD3 (0xD3). -/
def execInvalid0xD3 (s : State) : Host.Outcome State Fault Refusal := rldBeat charInvalid s

/-- R284: INVALID 0xD4 (0xD4). -/
def execInvalid0xD4 (s : State) : Host.Outcome State Fault Refusal := rldBeat charInvalid s

/-- R284: INVALID 0xD5 (0xD5). -/
def execInvalid0xD5 (s : State) : Host.Outcome State Fault Refusal := rldBeat charInvalid s

/-- R284: INVALID 0xD6 (0xD6). -/
def execInvalid0xD6 (s : State) : Host.Outcome State Fault Refusal := rldBeat charInvalid s

/-- R284: INVALID 0xD7 (0xD7). -/
def execInvalid0xD7 (s : State) : Host.Outcome State Fault Refusal := rldBeat charInvalid s

/-- R284: INVALID 0xD8 (0xD8). -/
def execInvalid0xD8 (s : State) : Host.Outcome State Fault Refusal := rldBeat charInvalid s

/-- R284: INVALID 0xD9 (0xD9). -/
def execInvalid0xD9 (s : State) : Host.Outcome State Fault Refusal := rldBeat charInvalid s

/-- R284: INVALID 0xDA (0xDA). -/
def execInvalid0xDA (s : State) : Host.Outcome State Fault Refusal := rldBeat charInvalid s

/-- R284: INVALID 0xDB (0xDB). -/
def execInvalid0xDB (s : State) : Host.Outcome State Fault Refusal := rldBeat charInvalid s

/-- R284: INVALID 0xDC (0xDC). -/
def execInvalid0xDC (s : State) : Host.Outcome State Fault Refusal := rldBeat charInvalid s

/-- R284: INVALID 0xDD (0xDD). -/
def execInvalid0xDD (s : State) : Host.Outcome State Fault Refusal := rldBeat charInvalid s

/-- R284: INVALID 0xDE (0xDE). -/
def execInvalid0xDE (s : State) : Host.Outcome State Fault Refusal := rldBeat charInvalid s

/-- R284: INVALID 0xDF (0xDF). -/
def execInvalid0xDF (s : State) : Host.Outcome State Fault Refusal := rldBeat charInvalid s

/-- R284: INVALID 0xE0 (0xE0). -/
def execInvalid0xE0 (s : State) : Host.Outcome State Fault Refusal := rldBeat charInvalid s

/-- R284: INVALID 0xE1 (0xE1). -/
def execInvalid0xE1 (s : State) : Host.Outcome State Fault Refusal := rldBeat charInvalid s

/-- R284: INVALID 0xE2 (0xE2). -/
def execInvalid0xE2 (s : State) : Host.Outcome State Fault Refusal := rldBeat charInvalid s

/-- R284: INVALID 0xE3 (0xE3). -/
def execInvalid0xE3 (s : State) : Host.Outcome State Fault Refusal := rldBeat charInvalid s

/-- R284: INVALID 0xE4 (0xE4). -/
def execInvalid0xE4 (s : State) : Host.Outcome State Fault Refusal := rldBeat charInvalid s

/-- R284: INVALID 0xE5 (0xE5). -/
def execInvalid0xE5 (s : State) : Host.Outcome State Fault Refusal := rldBeat charInvalid s

/-- R284: INVALID 0xE6 (0xE6). -/
def execInvalid0xE6 (s : State) : Host.Outcome State Fault Refusal := rldBeat charInvalid s

/-- R284: INVALID 0xE7 (0xE7). -/
def execInvalid0xE7 (s : State) : Host.Outcome State Fault Refusal := rldBeat charInvalid s

/-- R284: INVALID 0xE8 (0xE8). -/
def execInvalid0xE8 (s : State) : Host.Outcome State Fault Refusal := rldBeat charInvalid s

/-- R284: INVALID 0xE9 (0xE9). -/
def execInvalid0xE9 (s : State) : Host.Outcome State Fault Refusal := rldBeat charInvalid s

/-- R284: INVALID 0xEA (0xEA). -/
def execInvalid0xEA (s : State) : Host.Outcome State Fault Refusal := rldBeat charInvalid s

/-- R284: INVALID 0xEB (0xEB). -/
def execInvalid0xEB (s : State) : Host.Outcome State Fault Refusal := rldBeat charInvalid s

/-- R284: INVALID 0xEC (0xEC). -/
def execInvalid0xEC (s : State) : Host.Outcome State Fault Refusal := rldBeat charInvalid s

/-- R284: INVALID 0xED (0xED). -/
def execInvalid0xED (s : State) : Host.Outcome State Fault Refusal := rldBeat charInvalid s

/-- R284: INVALID 0xEE (0xEE). -/
def execInvalid0xEE (s : State) : Host.Outcome State Fault Refusal := rldBeat charInvalid s

/-- R284: INVALID 0xEF (0xEF). -/
def execInvalid0xEF (s : State) : Host.Outcome State Fault Refusal := rldBeat charInvalid s

/-- R284: INVALID 0xF0 (0xF0). -/
def execInvalid0xF0 (s : State) : Host.Outcome State Fault Refusal := rldBeat charInvalid s

/-- R284: INVALID 0xF1 (0xF1). -/
def execInvalid0xF1 (s : State) : Host.Outcome State Fault Refusal := rldBeat charInvalid s

/-- R284: INVALID 0xF2 (0xF2). -/
def execInvalid0xF2 (s : State) : Host.Outcome State Fault Refusal := rldBeat charInvalid s

/-- R284: INVALID 0xF3 (0xF3). -/
def execInvalid0xF3 (s : State) : Host.Outcome State Fault Refusal := rldBeat charInvalid s

/-- R284: INVALID 0xF4 (0xF4). -/
def execInvalid0xF4 (s : State) : Host.Outcome State Fault Refusal := rldBeat charInvalid s

/-- R284: INVALID 0xF5 (0xF5). -/
def execInvalid0xF5 (s : State) : Host.Outcome State Fault Refusal := rldBeat charInvalid s

/-- R284: INVALID 0xF6 (0xF6). -/
def execInvalid0xF6 (s : State) : Host.Outcome State Fault Refusal := rldBeat charInvalid s

/-- R284: INVALID 0xF7 (0xF7). -/
def execInvalid0xF7 (s : State) : Host.Outcome State Fault Refusal := rldBeat charInvalid s

/-- R284: INVALID 0xF8 (0xF8). -/
def execInvalid0xF8 (s : State) : Host.Outcome State Fault Refusal := rldBeat charInvalid s

/-- R284: INVALID 0xF9 (0xF9). -/
def execInvalid0xF9 (s : State) : Host.Outcome State Fault Refusal := rldBeat charInvalid s

/-- R284: INVALID 0xFA (0xFA). -/
def execInvalid0xFA (s : State) : Host.Outcome State Fault Refusal := rldBeat charInvalid s

/-- R284: INVALID 0xFB (0xFB). -/
def execInvalid0xFB (s : State) : Host.Outcome State Fault Refusal := rldBeat charInvalid s

/-- R284: INVALID 0xFC (0xFC). -/
def execInvalid0xFC (s : State) : Host.Outcome State Fault Refusal := rldBeat charInvalid s

/-- R284: INVALID 0xFD (0xFD). -/
def execInvalid0xFD (s : State) : Host.Outcome State Fault Refusal := rldBeat charInvalid s

/-- R284: INVALID 0xFE (0xFE). -/
def execInvalid0xFE (s : State) : Host.Outcome State Fault Refusal := rldBeat charInvalid s

/-- R284: INVALID 0xFF (0xFF). -/
def execInvalid0xFF (s : State) : Host.Outcome State Fault Refusal := rldBeat charInvalid s

end Sys2Proof.Machine
end

