-- ==== Sys2Proof/Machine/Dispatch.lean ====
section
/-! DEFINITION. The meaning of every instruction, one arm per constructor of `Instr`. -/

namespace Sys2Proof.Machine

def exec (i : Instr) (s : State) : Host.Outcome State Fault Refusal :=
  match i with
  | .invalid0x00 => Sys2Proof.Machine.execInvalid0x00 s
  | .invalid0x01 => Sys2Proof.Machine.execInvalid0x01 s
  | .invalid0x02 => Sys2Proof.Machine.execInvalid0x02 s
  | .invalid0x03 => Sys2Proof.Machine.execInvalid0x03 s
  | .invalid0x04 => Sys2Proof.Machine.execInvalid0x04 s
  | .invalid0x05 => Sys2Proof.Machine.execInvalid0x05 s
  | .invalid0x06 => Sys2Proof.Machine.execInvalid0x06 s
  | .invalid0x07 => Sys2Proof.Machine.execInvalid0x07 s
  | .invalid0x08 => Sys2Proof.Machine.execInvalid0x08 s
  | .invalid0x09 => Sys2Proof.Machine.execInvalid0x09 s
  | .skipLf => Sys2Proof.Machine.execSkipLf s
  | .invalid0x0B => Sys2Proof.Machine.execInvalid0x0B s
  | .invalid0x0C => Sys2Proof.Machine.execInvalid0x0C s
  | .skipCr => Sys2Proof.Machine.execSkipCr s
  | .invalid0x0E => Sys2Proof.Machine.execInvalid0x0E s
  | .invalid0x0F => Sys2Proof.Machine.execInvalid0x0F s
  | .invalid0x10 => Sys2Proof.Machine.execInvalid0x10 s
  | .invalid0x11 => Sys2Proof.Machine.execInvalid0x11 s
  | .invalid0x12 => Sys2Proof.Machine.execInvalid0x12 s
  | .invalid0x13 => Sys2Proof.Machine.execInvalid0x13 s
  | .invalid0x14 => Sys2Proof.Machine.execInvalid0x14 s
  | .invalid0x15 => Sys2Proof.Machine.execInvalid0x15 s
  | .invalid0x16 => Sys2Proof.Machine.execInvalid0x16 s
  | .invalid0x17 => Sys2Proof.Machine.execInvalid0x17 s
  | .invalid0x18 => Sys2Proof.Machine.execInvalid0x18 s
  | .invalid0x19 => Sys2Proof.Machine.execInvalid0x19 s
  | .invalid0x1A => Sys2Proof.Machine.execInvalid0x1A s
  | .invalid0x1B => Sys2Proof.Machine.execInvalid0x1B s
  | .invalid0x1C => Sys2Proof.Machine.execInvalid0x1C s
  | .invalid0x1D => Sys2Proof.Machine.execInvalid0x1D s
  | .invalid0x1E => Sys2Proof.Machine.execInvalid0x1E s
  | .invalid0x1F => Sys2Proof.Machine.execInvalid0x1F s
  | .invalid0x20 => Sys2Proof.Machine.execInvalid0x20 s
  | .fillBlack => Sys2Proof.Machine.execFillBlack s
  | .invalid0x22 => Sys2Proof.Machine.execInvalid0x22 s
  | .invalid0x23 => Sys2Proof.Machine.execInvalid0x23 s
  | .invalid0x24 => Sys2Proof.Machine.execInvalid0x24 s
  | .invalid0x25 => Sys2Proof.Machine.execInvalid0x25 s
  | .invalid0x26 => Sys2Proof.Machine.execInvalid0x26 s
  | .invalid0x27 => Sys2Proof.Machine.execInvalid0x27 s
  | .invalid0x28 => Sys2Proof.Machine.execInvalid0x28 s
  | .invalid0x29 => Sys2Proof.Machine.execInvalid0x29 s
  | .invalid0x2A => Sys2Proof.Machine.execInvalid0x2A s
  | .invalid0x2B => Sys2Proof.Machine.execInvalid0x2B s
  | .fillWhite => Sys2Proof.Machine.execFillWhite s
  | .invalid0x2D => Sys2Proof.Machine.execInvalid0x2D s
  | .invalid0x2E => Sys2Proof.Machine.execInvalid0x2E s
  | .invalid0x2F => Sys2Proof.Machine.execInvalid0x2F s
  | .dataDigit0 => Sys2Proof.Machine.execDataDigit0 s
  | .dataDigit1 => Sys2Proof.Machine.execDataDigit1 s
  | .dataDigit2 => Sys2Proof.Machine.execDataDigit2 s
  | .dataDigit3 => Sys2Proof.Machine.execDataDigit3 s
  | .dataDigit4 => Sys2Proof.Machine.execDataDigit4 s
  | .dataDigit5 => Sys2Proof.Machine.execDataDigit5 s
  | .dataDigit6 => Sys2Proof.Machine.execDataDigit6 s
  | .dataDigit7 => Sys2Proof.Machine.execDataDigit7 s
  | .dataDigit8 => Sys2Proof.Machine.execDataDigit8 s
  | .dataDigit9 => Sys2Proof.Machine.execDataDigit9 s
  | .repeatRow => Sys2Proof.Machine.execRepeatRow s
  | .invalid0x3B => Sys2Proof.Machine.execInvalid0x3B s
  | .invalid0x3C => Sys2Proof.Machine.execInvalid0x3C s
  | .invalid0x3D => Sys2Proof.Machine.execInvalid0x3D s
  | .invalid0x3E => Sys2Proof.Machine.execInvalid0x3E s
  | .invalid0x3F => Sys2Proof.Machine.execInvalid0x3F s
  | .invalid0x40 => Sys2Proof.Machine.execInvalid0x40 s
  | .dataUpperA => Sys2Proof.Machine.execDataUpperA s
  | .dataUpperB => Sys2Proof.Machine.execDataUpperB s
  | .dataUpperC => Sys2Proof.Machine.execDataUpperC s
  | .dataUpperD => Sys2Proof.Machine.execDataUpperD s
  | .dataUpperE => Sys2Proof.Machine.execDataUpperE s
  | .dataUpperF => Sys2Proof.Machine.execDataUpperF s
  | .multLowG => Sys2Proof.Machine.execMultLowG s
  | .multLowH => Sys2Proof.Machine.execMultLowH s
  | .multLowI => Sys2Proof.Machine.execMultLowI s
  | .multLowJ => Sys2Proof.Machine.execMultLowJ s
  | .multLowK => Sys2Proof.Machine.execMultLowK s
  | .multLowL => Sys2Proof.Machine.execMultLowL s
  | .multLowM => Sys2Proof.Machine.execMultLowM s
  | .multLowN => Sys2Proof.Machine.execMultLowN s
  | .multLowO => Sys2Proof.Machine.execMultLowO s
  | .multLowP => Sys2Proof.Machine.execMultLowP s
  | .multLowQ => Sys2Proof.Machine.execMultLowQ s
  | .multLowR => Sys2Proof.Machine.execMultLowR s
  | .multLowS => Sys2Proof.Machine.execMultLowS s
  | .multLowT => Sys2Proof.Machine.execMultLowT s
  | .multLowU => Sys2Proof.Machine.execMultLowU s
  | .multLowV => Sys2Proof.Machine.execMultLowV s
  | .multLowW => Sys2Proof.Machine.execMultLowW s
  | .multLowX => Sys2Proof.Machine.execMultLowX s
  | .multLowY => Sys2Proof.Machine.execMultLowY s
  | .invalid0x5A => Sys2Proof.Machine.execInvalid0x5A s
  | .invalid0x5B => Sys2Proof.Machine.execInvalid0x5B s
  | .invalid0x5C => Sys2Proof.Machine.execInvalid0x5C s
  | .invalid0x5D => Sys2Proof.Machine.execInvalid0x5D s
  | .invalid0x5E => Sys2Proof.Machine.execInvalid0x5E s
  | .invalid0x5F => Sys2Proof.Machine.execInvalid0x5F s
  | .invalid0x60 => Sys2Proof.Machine.execInvalid0x60 s
  | .dataLowerA => Sys2Proof.Machine.execDataLowerA s
  | .dataLowerB => Sys2Proof.Machine.execDataLowerB s
  | .dataLowerC => Sys2Proof.Machine.execDataLowerC s
  | .dataLowerD => Sys2Proof.Machine.execDataLowerD s
  | .dataLowerE => Sys2Proof.Machine.execDataLowerE s
  | .dataLowerF => Sys2Proof.Machine.execDataLowerF s
  | .multHighG => Sys2Proof.Machine.execMultHighG s
  | .multHighH => Sys2Proof.Machine.execMultHighH s
  | .multHighI => Sys2Proof.Machine.execMultHighI s
  | .multHighJ => Sys2Proof.Machine.execMultHighJ s
  | .multHighK => Sys2Proof.Machine.execMultHighK s
  | .multHighL => Sys2Proof.Machine.execMultHighL s
  | .multHighM => Sys2Proof.Machine.execMultHighM s
  | .multHighN => Sys2Proof.Machine.execMultHighN s
  | .multHighO => Sys2Proof.Machine.execMultHighO s
  | .multHighP => Sys2Proof.Machine.execMultHighP s
  | .multHighQ => Sys2Proof.Machine.execMultHighQ s
  | .multHighR => Sys2Proof.Machine.execMultHighR s
  | .multHighS => Sys2Proof.Machine.execMultHighS s
  | .multHighT => Sys2Proof.Machine.execMultHighT s
  | .multHighU => Sys2Proof.Machine.execMultHighU s
  | .multHighV => Sys2Proof.Machine.execMultHighV s
  | .multHighW => Sys2Proof.Machine.execMultHighW s
  | .multHighX => Sys2Proof.Machine.execMultHighX s
  | .multHighY => Sys2Proof.Machine.execMultHighY s
  | .multHighZ => Sys2Proof.Machine.execMultHighZ s
  | .invalid0x7B => Sys2Proof.Machine.execInvalid0x7B s
  | .invalid0x7C => Sys2Proof.Machine.execInvalid0x7C s
  | .invalid0x7D => Sys2Proof.Machine.execInvalid0x7D s
  | .invalid0x7E => Sys2Proof.Machine.execInvalid0x7E s
  | .invalid0x7F => Sys2Proof.Machine.execInvalid0x7F s
  | .invalid0x80 => Sys2Proof.Machine.execInvalid0x80 s
  | .invalid0x81 => Sys2Proof.Machine.execInvalid0x81 s
  | .invalid0x82 => Sys2Proof.Machine.execInvalid0x82 s
  | .invalid0x83 => Sys2Proof.Machine.execInvalid0x83 s
  | .invalid0x84 => Sys2Proof.Machine.execInvalid0x84 s
  | .invalid0x85 => Sys2Proof.Machine.execInvalid0x85 s
  | .invalid0x86 => Sys2Proof.Machine.execInvalid0x86 s
  | .invalid0x87 => Sys2Proof.Machine.execInvalid0x87 s
  | .invalid0x88 => Sys2Proof.Machine.execInvalid0x88 s
  | .invalid0x89 => Sys2Proof.Machine.execInvalid0x89 s
  | .invalid0x8A => Sys2Proof.Machine.execInvalid0x8A s
  | .invalid0x8B => Sys2Proof.Machine.execInvalid0x8B s
  | .invalid0x8C => Sys2Proof.Machine.execInvalid0x8C s
  | .invalid0x8D => Sys2Proof.Machine.execInvalid0x8D s
  | .invalid0x8E => Sys2Proof.Machine.execInvalid0x8E s
  | .invalid0x8F => Sys2Proof.Machine.execInvalid0x8F s
  | .invalid0x90 => Sys2Proof.Machine.execInvalid0x90 s
  | .invalid0x91 => Sys2Proof.Machine.execInvalid0x91 s
  | .invalid0x92 => Sys2Proof.Machine.execInvalid0x92 s
  | .invalid0x93 => Sys2Proof.Machine.execInvalid0x93 s
  | .invalid0x94 => Sys2Proof.Machine.execInvalid0x94 s
  | .invalid0x95 => Sys2Proof.Machine.execInvalid0x95 s
  | .invalid0x96 => Sys2Proof.Machine.execInvalid0x96 s
  | .invalid0x97 => Sys2Proof.Machine.execInvalid0x97 s
  | .invalid0x98 => Sys2Proof.Machine.execInvalid0x98 s
  | .invalid0x99 => Sys2Proof.Machine.execInvalid0x99 s
  | .invalid0x9A => Sys2Proof.Machine.execInvalid0x9A s
  | .invalid0x9B => Sys2Proof.Machine.execInvalid0x9B s
  | .invalid0x9C => Sys2Proof.Machine.execInvalid0x9C s
  | .invalid0x9D => Sys2Proof.Machine.execInvalid0x9D s
  | .invalid0x9E => Sys2Proof.Machine.execInvalid0x9E s
  | .invalid0x9F => Sys2Proof.Machine.execInvalid0x9F s
  | .invalid0xA0 => Sys2Proof.Machine.execInvalid0xA0 s
  | .invalid0xA1 => Sys2Proof.Machine.execInvalid0xA1 s
  | .invalid0xA2 => Sys2Proof.Machine.execInvalid0xA2 s
  | .invalid0xA3 => Sys2Proof.Machine.execInvalid0xA3 s
  | .invalid0xA4 => Sys2Proof.Machine.execInvalid0xA4 s
  | .invalid0xA5 => Sys2Proof.Machine.execInvalid0xA5 s
  | .invalid0xA6 => Sys2Proof.Machine.execInvalid0xA6 s
  | .invalid0xA7 => Sys2Proof.Machine.execInvalid0xA7 s
  | .invalid0xA8 => Sys2Proof.Machine.execInvalid0xA8 s
  | .invalid0xA9 => Sys2Proof.Machine.execInvalid0xA9 s
  | .invalid0xAA => Sys2Proof.Machine.execInvalid0xAA s
  | .invalid0xAB => Sys2Proof.Machine.execInvalid0xAB s
  | .invalid0xAC => Sys2Proof.Machine.execInvalid0xAC s
  | .invalid0xAD => Sys2Proof.Machine.execInvalid0xAD s
  | .invalid0xAE => Sys2Proof.Machine.execInvalid0xAE s
  | .invalid0xAF => Sys2Proof.Machine.execInvalid0xAF s
  | .invalid0xB0 => Sys2Proof.Machine.execInvalid0xB0 s
  | .invalid0xB1 => Sys2Proof.Machine.execInvalid0xB1 s
  | .invalid0xB2 => Sys2Proof.Machine.execInvalid0xB2 s
  | .invalid0xB3 => Sys2Proof.Machine.execInvalid0xB3 s
  | .invalid0xB4 => Sys2Proof.Machine.execInvalid0xB4 s
  | .invalid0xB5 => Sys2Proof.Machine.execInvalid0xB5 s
  | .invalid0xB6 => Sys2Proof.Machine.execInvalid0xB6 s
  | .invalid0xB7 => Sys2Proof.Machine.execInvalid0xB7 s
  | .invalid0xB8 => Sys2Proof.Machine.execInvalid0xB8 s
  | .invalid0xB9 => Sys2Proof.Machine.execInvalid0xB9 s
  | .invalid0xBA => Sys2Proof.Machine.execInvalid0xBA s
  | .invalid0xBB => Sys2Proof.Machine.execInvalid0xBB s
  | .invalid0xBC => Sys2Proof.Machine.execInvalid0xBC s
  | .invalid0xBD => Sys2Proof.Machine.execInvalid0xBD s
  | .invalid0xBE => Sys2Proof.Machine.execInvalid0xBE s
  | .invalid0xBF => Sys2Proof.Machine.execInvalid0xBF s
  | .invalid0xC0 => Sys2Proof.Machine.execInvalid0xC0 s
  | .invalid0xC1 => Sys2Proof.Machine.execInvalid0xC1 s
  | .invalid0xC2 => Sys2Proof.Machine.execInvalid0xC2 s
  | .invalid0xC3 => Sys2Proof.Machine.execInvalid0xC3 s
  | .invalid0xC4 => Sys2Proof.Machine.execInvalid0xC4 s
  | .invalid0xC5 => Sys2Proof.Machine.execInvalid0xC5 s
  | .invalid0xC6 => Sys2Proof.Machine.execInvalid0xC6 s
  | .invalid0xC7 => Sys2Proof.Machine.execInvalid0xC7 s
  | .invalid0xC8 => Sys2Proof.Machine.execInvalid0xC8 s
  | .invalid0xC9 => Sys2Proof.Machine.execInvalid0xC9 s
  | .invalid0xCA => Sys2Proof.Machine.execInvalid0xCA s
  | .invalid0xCB => Sys2Proof.Machine.execInvalid0xCB s
  | .invalid0xCC => Sys2Proof.Machine.execInvalid0xCC s
  | .invalid0xCD => Sys2Proof.Machine.execInvalid0xCD s
  | .invalid0xCE => Sys2Proof.Machine.execInvalid0xCE s
  | .invalid0xCF => Sys2Proof.Machine.execInvalid0xCF s
  | .invalid0xD0 => Sys2Proof.Machine.execInvalid0xD0 s
  | .invalid0xD1 => Sys2Proof.Machine.execInvalid0xD1 s
  | .invalid0xD2 => Sys2Proof.Machine.execInvalid0xD2 s
  | .invalid0xD3 => Sys2Proof.Machine.execInvalid0xD3 s
  | .invalid0xD4 => Sys2Proof.Machine.execInvalid0xD4 s
  | .invalid0xD5 => Sys2Proof.Machine.execInvalid0xD5 s
  | .invalid0xD6 => Sys2Proof.Machine.execInvalid0xD6 s
  | .invalid0xD7 => Sys2Proof.Machine.execInvalid0xD7 s
  | .invalid0xD8 => Sys2Proof.Machine.execInvalid0xD8 s
  | .invalid0xD9 => Sys2Proof.Machine.execInvalid0xD9 s
  | .invalid0xDA => Sys2Proof.Machine.execInvalid0xDA s
  | .invalid0xDB => Sys2Proof.Machine.execInvalid0xDB s
  | .invalid0xDC => Sys2Proof.Machine.execInvalid0xDC s
  | .invalid0xDD => Sys2Proof.Machine.execInvalid0xDD s
  | .invalid0xDE => Sys2Proof.Machine.execInvalid0xDE s
  | .invalid0xDF => Sys2Proof.Machine.execInvalid0xDF s
  | .invalid0xE0 => Sys2Proof.Machine.execInvalid0xE0 s
  | .invalid0xE1 => Sys2Proof.Machine.execInvalid0xE1 s
  | .invalid0xE2 => Sys2Proof.Machine.execInvalid0xE2 s
  | .invalid0xE3 => Sys2Proof.Machine.execInvalid0xE3 s
  | .invalid0xE4 => Sys2Proof.Machine.execInvalid0xE4 s
  | .invalid0xE5 => Sys2Proof.Machine.execInvalid0xE5 s
  | .invalid0xE6 => Sys2Proof.Machine.execInvalid0xE6 s
  | .invalid0xE7 => Sys2Proof.Machine.execInvalid0xE7 s
  | .invalid0xE8 => Sys2Proof.Machine.execInvalid0xE8 s
  | .invalid0xE9 => Sys2Proof.Machine.execInvalid0xE9 s
  | .invalid0xEA => Sys2Proof.Machine.execInvalid0xEA s
  | .invalid0xEB => Sys2Proof.Machine.execInvalid0xEB s
  | .invalid0xEC => Sys2Proof.Machine.execInvalid0xEC s
  | .invalid0xED => Sys2Proof.Machine.execInvalid0xED s
  | .invalid0xEE => Sys2Proof.Machine.execInvalid0xEE s
  | .invalid0xEF => Sys2Proof.Machine.execInvalid0xEF s
  | .invalid0xF0 => Sys2Proof.Machine.execInvalid0xF0 s
  | .invalid0xF1 => Sys2Proof.Machine.execInvalid0xF1 s
  | .invalid0xF2 => Sys2Proof.Machine.execInvalid0xF2 s
  | .invalid0xF3 => Sys2Proof.Machine.execInvalid0xF3 s
  | .invalid0xF4 => Sys2Proof.Machine.execInvalid0xF4 s
  | .invalid0xF5 => Sys2Proof.Machine.execInvalid0xF5 s
  | .invalid0xF6 => Sys2Proof.Machine.execInvalid0xF6 s
  | .invalid0xF7 => Sys2Proof.Machine.execInvalid0xF7 s
  | .invalid0xF8 => Sys2Proof.Machine.execInvalid0xF8 s
  | .invalid0xF9 => Sys2Proof.Machine.execInvalid0xF9 s
  | .invalid0xFA => Sys2Proof.Machine.execInvalid0xFA s
  | .invalid0xFB => Sys2Proof.Machine.execInvalid0xFB s
  | .invalid0xFC => Sys2Proof.Machine.execInvalid0xFC s
  | .invalid0xFD => Sys2Proof.Machine.execInvalid0xFD s
  | .invalid0xFE => Sys2Proof.Machine.execInvalid0xFE s
  | .invalid0xFF => Sys2Proof.Machine.execInvalid0xFF s
  | .endBeat c => Sys2Proof.Machine.execEndBeat c s
  | .hexByte l b => Sys2Proof.Machine.execHexByte l b s
  | .csrRead a d => Sys2Proof.Machine.execCsrRead a d s
  | .ctrlWrite d => Sys2Proof.Machine.execCtrlWrite d s
  | .csrWrite a d => Sys2Proof.Machine.execCsrWrite a d s
  | .hexStart d => Sys2Proof.Machine.execHexStart d s
  | .hexStop d => Sys2Proof.Machine.execHexStop d s
  | .rldStart d => Sys2Proof.Machine.execRldStart d s
  | .rldAbort d => Sys2Proof.Machine.execRldAbort d s
  | .lutEncode d => Sys2Proof.Machine.execLutEncode d s
  | .lutDecode d => Sys2Proof.Machine.execLutDecode d s

end Sys2Proof.Machine
end

