-- ==== Sys2Proof/WellFormed.lean ====
section
/-! DEFINITION. Well-formed instructions: those that the rows of spec/opcode_table.json admit, each HOSTOP row
with the address and data bits that make a word its own (R122 of spec/30_encoding.md; log 6). -/

namespace Sys2Proof

/-- The CTRL data that names HEX_STOP: no RLD pulse and HEX_EN = 0. -/
def isHexStopData (d : Word32) : Bool := !d.getLsbD 0 && !d.getLsbD 8 && !d.getLsbD 9

/-- The CTRL data that names HEX_START: no RLD pulse and HEX_EN = 1. -/
def isHexStartData (d : Word32) : Bool := d.getLsbD 0 && !d.getLsbD 8 && !d.getLsbD 9

/-- The CTRL data that names RLD_START: the start pulse and HEX_EN = 0. -/
def isRldStartData (d : Word32) : Bool := !d.getLsbD 0 && d.getLsbD 8

/-- The CTRL data that names RLD_ABORT: the abort pulse alone and HEX_EN = 0. -/
def isRldAbortData (d : Word32) : Bool := !d.getLsbD 0 && !d.getLsbD 8 && d.getLsbD 9

/-- The CTRL data that stays CTRL_WRITE: HEX_EN = 1 together with an RLD pulse, a write to both units. -/
def isCtrlWriteData (d : Word32) : Bool := d.getLsbD 0 && (d.getLsbD 8 || d.getLsbD 9)

/-- The addresses of CSR_WRITE: not CTRL (R301), and not the two registers whose write is the row LUT_ENCODE
or LUT_DECODE (R122). -/
def isCsrWriteAddr (a : BitVec 8) : Bool := a != 0x00#8 && a != 0x30#8 && a != 0x38#8

/-- Whether an instruction is one that a row of the opcode table admits. -/
def wellFormed : Instr → Bool
  | .invalid0x00 | .invalid0x01 | .invalid0x02 | .invalid0x03 | .invalid0x04 | .invalid0x05 | .invalid0x06 | .invalid0x07
  | .invalid0x08 | .invalid0x09 | .skipLf | .invalid0x0B | .invalid0x0C | .skipCr | .invalid0x0E | .invalid0x0F
  | .invalid0x10 | .invalid0x11 | .invalid0x12 | .invalid0x13 | .invalid0x14 | .invalid0x15 | .invalid0x16 | .invalid0x17
  | .invalid0x18 | .invalid0x19 | .invalid0x1A | .invalid0x1B | .invalid0x1C | .invalid0x1D | .invalid0x1E | .invalid0x1F
  | .invalid0x20 | .fillBlack | .invalid0x22 | .invalid0x23 | .invalid0x24 | .invalid0x25 | .invalid0x26 | .invalid0x27
  | .invalid0x28 | .invalid0x29 | .invalid0x2A | .invalid0x2B | .fillWhite | .invalid0x2D | .invalid0x2E | .invalid0x2F
  | .dataDigit0 | .dataDigit1 | .dataDigit2 | .dataDigit3 | .dataDigit4 | .dataDigit5 | .dataDigit6 | .dataDigit7
  | .dataDigit8 | .dataDigit9 | .repeatRow | .invalid0x3B | .invalid0x3C | .invalid0x3D | .invalid0x3E | .invalid0x3F
  | .invalid0x40 | .dataUpperA | .dataUpperB | .dataUpperC | .dataUpperD | .dataUpperE | .dataUpperF | .multLowG
  | .multLowH | .multLowI | .multLowJ | .multLowK | .multLowL | .multLowM | .multLowN | .multLowO
  | .multLowP | .multLowQ | .multLowR | .multLowS | .multLowT | .multLowU | .multLowV | .multLowW
  | .multLowX | .multLowY | .invalid0x5A | .invalid0x5B | .invalid0x5C | .invalid0x5D | .invalid0x5E | .invalid0x5F
  | .invalid0x60 | .dataLowerA | .dataLowerB | .dataLowerC | .dataLowerD | .dataLowerE | .dataLowerF | .multHighG
  | .multHighH | .multHighI | .multHighJ | .multHighK | .multHighL | .multHighM | .multHighN | .multHighO
  | .multHighP | .multHighQ | .multHighR | .multHighS | .multHighT | .multHighU | .multHighV | .multHighW
  | .multHighX | .multHighY | .multHighZ | .invalid0x7B | .invalid0x7C | .invalid0x7D | .invalid0x7E | .invalid0x7F
  | .invalid0x80 | .invalid0x81 | .invalid0x82 | .invalid0x83 | .invalid0x84 | .invalid0x85 | .invalid0x86 | .invalid0x87
  | .invalid0x88 | .invalid0x89 | .invalid0x8A | .invalid0x8B | .invalid0x8C | .invalid0x8D | .invalid0x8E | .invalid0x8F
  | .invalid0x90 | .invalid0x91 | .invalid0x92 | .invalid0x93 | .invalid0x94 | .invalid0x95 | .invalid0x96 | .invalid0x97
  | .invalid0x98 | .invalid0x99 | .invalid0x9A | .invalid0x9B | .invalid0x9C | .invalid0x9D | .invalid0x9E | .invalid0x9F
  | .invalid0xA0 | .invalid0xA1 | .invalid0xA2 | .invalid0xA3 | .invalid0xA4 | .invalid0xA5 | .invalid0xA6 | .invalid0xA7
  | .invalid0xA8 | .invalid0xA9 | .invalid0xAA | .invalid0xAB | .invalid0xAC | .invalid0xAD | .invalid0xAE | .invalid0xAF
  | .invalid0xB0 | .invalid0xB1 | .invalid0xB2 | .invalid0xB3 | .invalid0xB4 | .invalid0xB5 | .invalid0xB6 | .invalid0xB7
  | .invalid0xB8 | .invalid0xB9 | .invalid0xBA | .invalid0xBB | .invalid0xBC | .invalid0xBD | .invalid0xBE | .invalid0xBF
  | .invalid0xC0 | .invalid0xC1 | .invalid0xC2 | .invalid0xC3 | .invalid0xC4 | .invalid0xC5 | .invalid0xC6 | .invalid0xC7
  | .invalid0xC8 | .invalid0xC9 | .invalid0xCA | .invalid0xCB | .invalid0xCC | .invalid0xCD | .invalid0xCE | .invalid0xCF
  | .invalid0xD0 | .invalid0xD1 | .invalid0xD2 | .invalid0xD3 | .invalid0xD4 | .invalid0xD5 | .invalid0xD6 | .invalid0xD7
  | .invalid0xD8 | .invalid0xD9 | .invalid0xDA | .invalid0xDB | .invalid0xDC | .invalid0xDD | .invalid0xDE | .invalid0xDF
  | .invalid0xE0 | .invalid0xE1 | .invalid0xE2 | .invalid0xE3 | .invalid0xE4 | .invalid0xE5 | .invalid0xE6 | .invalid0xE7
  | .invalid0xE8 | .invalid0xE9 | .invalid0xEA | .invalid0xEB | .invalid0xEC | .invalid0xED | .invalid0xEE | .invalid0xEF
  | .invalid0xF0 | .invalid0xF1 | .invalid0xF2 | .invalid0xF3 | .invalid0xF4 | .invalid0xF5 | .invalid0xF6 | .invalid0xF7
  | .invalid0xF8 | .invalid0xF9 | .invalid0xFA | .invalid0xFB | .invalid0xFC | .invalid0xFD | .invalid0xFE | .invalid0xFF => true
  | .endBeat _ => true
  | .hexByte _ _ => true
  | .csrRead _ _ => true
  | .ctrlWrite d => isCtrlWriteData d
  | .csrWrite a _ => isCsrWriteAddr a
  | .hexStart d => isHexStartData d
  | .hexStop d => isHexStopData d
  | .rldStart d => isRldStartData d
  | .rldAbort d => isRldAbortData d
  | .lutEncode _ => true
  | .lutDecode _ => true

end Sys2Proof
end

