-- ==== Sys2Proof/Decode.lean ====
section
/-! DEFINITION. Decoding an input to its instruction, the rejection by name of a number that has bits above its
format, and after it the encoder (spec/30_encoding.md R110..R115, R122). -/

namespace Sys2Proof

/-- Why a number is no input of a format. -/
inductive DecodeError where
  /-- A bit at or above the width of the format (R110) is set. Safe: no input has such a bit. -/
  | bitsAboveFormat (f : Format)
deriving DecidableEq, Repr

/-- The width of a format in bits (R110). -/
def Format.width : Format → Nat
  | .rldBeat => 9
  | .hexBeat => 9
  | .hostOp => 41

/-- The format of an input. -/
def Input.format : Input → Format
  | .rldBeat _ => .rldBeat
  | .hexBeat _ => .hexBeat
  | .hostOp _ => .hostOp

/-- The bits of an input as a number, bit 0 least significant. -/
def Input.bits : Input → Nat
  | .rldBeat w => w.toNat
  | .hexBeat w => w.toNat
  | .hostOp w => w.toNat

/-- Codes 0x00..0x3F of the body character map (R113). -/
def charRowsLow : List Instr :=
  ([.invalid0x00, .invalid0x01, .invalid0x02, .invalid0x03, .invalid0x04, .invalid0x05, .invalid0x06, .invalid0x07,
    .invalid0x08, .invalid0x09, .skipLf, .invalid0x0B, .invalid0x0C, .skipCr, .invalid0x0E, .invalid0x0F,
    .invalid0x10, .invalid0x11, .invalid0x12, .invalid0x13, .invalid0x14, .invalid0x15, .invalid0x16, .invalid0x17,
    .invalid0x18, .invalid0x19, .invalid0x1A, .invalid0x1B, .invalid0x1C, .invalid0x1D, .invalid0x1E, .invalid0x1F] : List Instr) ++
  ([.invalid0x20, .fillBlack, .invalid0x22, .invalid0x23, .invalid0x24, .invalid0x25, .invalid0x26, .invalid0x27,
    .invalid0x28, .invalid0x29, .invalid0x2A, .invalid0x2B, .fillWhite, .invalid0x2D, .invalid0x2E, .invalid0x2F,
    .dataDigit0, .dataDigit1, .dataDigit2, .dataDigit3, .dataDigit4, .dataDigit5, .dataDigit6, .dataDigit7,
    .dataDigit8, .dataDigit9, .repeatRow, .invalid0x3B, .invalid0x3C, .invalid0x3D, .invalid0x3E, .invalid0x3F] : List Instr)

/-- Codes 0x40..0x7F of the body character map (R113). -/
def charRowsLetters : List Instr :=
  ([.invalid0x40, .dataUpperA, .dataUpperB, .dataUpperC, .dataUpperD, .dataUpperE, .dataUpperF, .multLowG,
    .multLowH, .multLowI, .multLowJ, .multLowK, .multLowL, .multLowM, .multLowN, .multLowO,
    .multLowP, .multLowQ, .multLowR, .multLowS, .multLowT, .multLowU, .multLowV, .multLowW,
    .multLowX, .multLowY, .invalid0x5A, .invalid0x5B, .invalid0x5C, .invalid0x5D, .invalid0x5E, .invalid0x5F] : List Instr) ++
  ([.invalid0x60, .dataLowerA, .dataLowerB, .dataLowerC, .dataLowerD, .dataLowerE, .dataLowerF, .multHighG,
    .multHighH, .multHighI, .multHighJ, .multHighK, .multHighL, .multHighM, .multHighN, .multHighO,
    .multHighP, .multHighQ, .multHighR, .multHighS, .multHighT, .multHighU, .multHighV, .multHighW,
    .multHighX, .multHighY, .multHighZ, .invalid0x7B, .invalid0x7C, .invalid0x7D, .invalid0x7E, .invalid0x7F] : List Instr)

/-- Codes 0x80..0xFF of the body character map (R113): all INVALID. -/
def charRowsHigh : List Instr :=
  ([.invalid0x80, .invalid0x81, .invalid0x82, .invalid0x83, .invalid0x84, .invalid0x85, .invalid0x86, .invalid0x87,
    .invalid0x88, .invalid0x89, .invalid0x8A, .invalid0x8B, .invalid0x8C, .invalid0x8D, .invalid0x8E, .invalid0x8F,
    .invalid0x90, .invalid0x91, .invalid0x92, .invalid0x93, .invalid0x94, .invalid0x95, .invalid0x96, .invalid0x97,
    .invalid0x98, .invalid0x99, .invalid0x9A, .invalid0x9B, .invalid0x9C, .invalid0x9D, .invalid0x9E, .invalid0x9F] : List Instr) ++
  ([.invalid0xA0, .invalid0xA1, .invalid0xA2, .invalid0xA3, .invalid0xA4, .invalid0xA5, .invalid0xA6, .invalid0xA7,
    .invalid0xA8, .invalid0xA9, .invalid0xAA, .invalid0xAB, .invalid0xAC, .invalid0xAD, .invalid0xAE, .invalid0xAF,
    .invalid0xB0, .invalid0xB1, .invalid0xB2, .invalid0xB3, .invalid0xB4, .invalid0xB5, .invalid0xB6, .invalid0xB7,
    .invalid0xB8, .invalid0xB9, .invalid0xBA, .invalid0xBB, .invalid0xBC, .invalid0xBD, .invalid0xBE, .invalid0xBF] : List Instr) ++
  ([.invalid0xC0, .invalid0xC1, .invalid0xC2, .invalid0xC3, .invalid0xC4, .invalid0xC5, .invalid0xC6, .invalid0xC7,
    .invalid0xC8, .invalid0xC9, .invalid0xCA, .invalid0xCB, .invalid0xCC, .invalid0xCD, .invalid0xCE, .invalid0xCF,
    .invalid0xD0, .invalid0xD1, .invalid0xD2, .invalid0xD3, .invalid0xD4, .invalid0xD5, .invalid0xD6, .invalid0xD7,
    .invalid0xD8, .invalid0xD9, .invalid0xDA, .invalid0xDB, .invalid0xDC, .invalid0xDD, .invalid0xDE, .invalid0xDF] : List Instr) ++
  ([.invalid0xE0, .invalid0xE1, .invalid0xE2, .invalid0xE3, .invalid0xE4, .invalid0xE5, .invalid0xE6, .invalid0xE7,
    .invalid0xE8, .invalid0xE9, .invalid0xEA, .invalid0xEB, .invalid0xEC, .invalid0xED, .invalid0xEE, .invalid0xEF,
    .invalid0xF0, .invalid0xF1, .invalid0xF2, .invalid0xF3, .invalid0xF4, .invalid0xF5, .invalid0xF6, .invalid0xF7,
    .invalid0xF8, .invalid0xF9, .invalid0xFA, .invalid0xFB, .invalid0xFC, .invalid0xFD, .invalid0xFE, .invalid0xFF] : List Instr)

/-- The row of a Char beat, by its code: the body character map of R113 in code order. -/
def decodeChar (c : BitVec 8) : Instr :=
  ((charRowsLow ++ charRowsLetters ++ charRowsHigh)[c.toNat]?).getD .invalid0x00

/-- RLDBEAT (R112): END = 1 is the End beat whatever CHAR is, END = 0 a Char beat. -/
def decodeRldBeat (w : BitVec 9) : Instr :=
  if w.getLsbD 8 then .endBeat (w.extractLsb' 0 8) else decodeChar (w.extractLsb' 0 8)

/-- HEXBEAT (R110): bit 8 LAST, bits 7:0 DATA; no encoding is illegal (R119). -/
def decodeHexBeat (w : BitVec 9) : Instr :=
  .hexByte (w.getLsbD 8) (w.extractLsb' 0 8)

/-- A write to CTRL: which of its parts names it (R122, log 6). Every one of these rows means the whole
CTRL_WRITE of R302. -/
def decodeCtrl (d : Word32) : Instr :=
  match d.getLsbD 0, d.getLsbD 8, d.getLsbD 9 with
  | false, false, false => .hexStop d
  | false, true, _ => .rldStart d
  | false, false, true => .rldAbort d
  | true, false, false => .hexStart d
  | true, _, _ => .ctrlWrite d

/-- HOSTOP (R110): bit 40 W, bits 39:32 ADDR, bits 31:0 DATA; the operation by W and ADDR (R122). -/
def decodeHostOp (w : BitVec 41) : Instr :=
  let a := w.extractLsb' 32 8
  let d := w.extractLsb' 0 32
  if w.getLsbD 40 then
    if a = 0x00#8 then decodeCtrl d
    else if a = 0x30#8 then .lutEncode d
    else if a = 0x38#8 then .lutDecode d
    else .csrWrite a d
  else .csrRead a d

/-- The instruction of an input. Every input of a format is an instruction (R113, R119, R122). -/
def decode : Input → Instr
  | .rldBeat w => decodeRldBeat w
  | .hexBeat w => decodeHexBeat w
  | .hostOp w => decodeHostOp w

/-- Decode a number as a word of a format: rejected by name where a bit above the format is set. -/
def decodeNumber (f : Format) (n : Nat) : Except DecodeError Instr :=
  if n < 2 ^ f.width then
    .ok (match f with
      | .rldBeat => decode (.rldBeat (BitVec.ofNat 9 n))
      | .hexBeat => decode (.hexBeat (BitVec.ofNat 9 n))
      | .hostOp => decode (.hostOp (BitVec.ofNat 41 n)))
  else .error (.bitsAboveFormat f)

/-- The format a row of the opcode table has, by its width in whole bytes: up to two bytes an RLDBEAT, up to
six a HOSTOP. HEXBEAT and RLDBEAT have one width and different ports (R110), so a word of two bytes alone is
read as an RLDBEAT (log 8). -/
def tableFormat (nbits : Nat) : Option Format :=
  if nbits ≤ 16 then some .rldBeat else if nbits ≤ 48 then some .hostOp else none

/-- The instruction the decoder reads from a row's word, bit 0 least significant. -/
def decodeTableWord (nbits w : Nat) : Option Instr :=
  match tableFormat nbits with
  | none => none
  | some f =>
    match decodeNumber f w with
    | .ok i => some i
    | .error _ => none

/-- An RLDBEAT with END = 0 (R110). -/
def charBeat (c : BitVec 8) : Input := .rldBeat (0#1 ++ c)

/-- A HOSTOP from its three fields (R110). -/
def hostOpWord (write : Bool) (addr : BitVec 8) (data : Word32) : BitVec 41 :=
  BitVec.ofBool write ++ addr ++ data

/-- The input an instruction is encoded as (R110, R113, R122). -/
def encode : Instr → Input
  | .invalid0x00 => charBeat 0x00#8
  | .invalid0x01 => charBeat 0x01#8
  | .invalid0x02 => charBeat 0x02#8
  | .invalid0x03 => charBeat 0x03#8
  | .invalid0x04 => charBeat 0x04#8
  | .invalid0x05 => charBeat 0x05#8
  | .invalid0x06 => charBeat 0x06#8
  | .invalid0x07 => charBeat 0x07#8
  | .invalid0x08 => charBeat 0x08#8
  | .invalid0x09 => charBeat 0x09#8
  | .skipLf => charBeat 0x0A#8
  | .invalid0x0B => charBeat 0x0B#8
  | .invalid0x0C => charBeat 0x0C#8
  | .skipCr => charBeat 0x0D#8
  | .invalid0x0E => charBeat 0x0E#8
  | .invalid0x0F => charBeat 0x0F#8
  | .invalid0x10 => charBeat 0x10#8
  | .invalid0x11 => charBeat 0x11#8
  | .invalid0x12 => charBeat 0x12#8
  | .invalid0x13 => charBeat 0x13#8
  | .invalid0x14 => charBeat 0x14#8
  | .invalid0x15 => charBeat 0x15#8
  | .invalid0x16 => charBeat 0x16#8
  | .invalid0x17 => charBeat 0x17#8
  | .invalid0x18 => charBeat 0x18#8
  | .invalid0x19 => charBeat 0x19#8
  | .invalid0x1A => charBeat 0x1A#8
  | .invalid0x1B => charBeat 0x1B#8
  | .invalid0x1C => charBeat 0x1C#8
  | .invalid0x1D => charBeat 0x1D#8
  | .invalid0x1E => charBeat 0x1E#8
  | .invalid0x1F => charBeat 0x1F#8
  | .invalid0x20 => charBeat 0x20#8
  | .fillBlack => charBeat 0x21#8
  | .invalid0x22 => charBeat 0x22#8
  | .invalid0x23 => charBeat 0x23#8
  | .invalid0x24 => charBeat 0x24#8
  | .invalid0x25 => charBeat 0x25#8
  | .invalid0x26 => charBeat 0x26#8
  | .invalid0x27 => charBeat 0x27#8
  | .invalid0x28 => charBeat 0x28#8
  | .invalid0x29 => charBeat 0x29#8
  | .invalid0x2A => charBeat 0x2A#8
  | .invalid0x2B => charBeat 0x2B#8
  | .fillWhite => charBeat 0x2C#8
  | .invalid0x2D => charBeat 0x2D#8
  | .invalid0x2E => charBeat 0x2E#8
  | .invalid0x2F => charBeat 0x2F#8
  | .dataDigit0 => charBeat 0x30#8
  | .dataDigit1 => charBeat 0x31#8
  | .dataDigit2 => charBeat 0x32#8
  | .dataDigit3 => charBeat 0x33#8
  | .dataDigit4 => charBeat 0x34#8
  | .dataDigit5 => charBeat 0x35#8
  | .dataDigit6 => charBeat 0x36#8
  | .dataDigit7 => charBeat 0x37#8
  | .dataDigit8 => charBeat 0x38#8
  | .dataDigit9 => charBeat 0x39#8
  | .repeatRow => charBeat 0x3A#8
  | .invalid0x3B => charBeat 0x3B#8
  | .invalid0x3C => charBeat 0x3C#8
  | .invalid0x3D => charBeat 0x3D#8
  | .invalid0x3E => charBeat 0x3E#8
  | .invalid0x3F => charBeat 0x3F#8
  | .invalid0x40 => charBeat 0x40#8
  | .dataUpperA => charBeat 0x41#8
  | .dataUpperB => charBeat 0x42#8
  | .dataUpperC => charBeat 0x43#8
  | .dataUpperD => charBeat 0x44#8
  | .dataUpperE => charBeat 0x45#8
  | .dataUpperF => charBeat 0x46#8
  | .multLowG => charBeat 0x47#8
  | .multLowH => charBeat 0x48#8
  | .multLowI => charBeat 0x49#8
  | .multLowJ => charBeat 0x4A#8
  | .multLowK => charBeat 0x4B#8
  | .multLowL => charBeat 0x4C#8
  | .multLowM => charBeat 0x4D#8
  | .multLowN => charBeat 0x4E#8
  | .multLowO => charBeat 0x4F#8
  | .multLowP => charBeat 0x50#8
  | .multLowQ => charBeat 0x51#8
  | .multLowR => charBeat 0x52#8
  | .multLowS => charBeat 0x53#8
  | .multLowT => charBeat 0x54#8
  | .multLowU => charBeat 0x55#8
  | .multLowV => charBeat 0x56#8
  | .multLowW => charBeat 0x57#8
  | .multLowX => charBeat 0x58#8
  | .multLowY => charBeat 0x59#8
  | .invalid0x5A => charBeat 0x5A#8
  | .invalid0x5B => charBeat 0x5B#8
  | .invalid0x5C => charBeat 0x5C#8
  | .invalid0x5D => charBeat 0x5D#8
  | .invalid0x5E => charBeat 0x5E#8
  | .invalid0x5F => charBeat 0x5F#8
  | .invalid0x60 => charBeat 0x60#8
  | .dataLowerA => charBeat 0x61#8
  | .dataLowerB => charBeat 0x62#8
  | .dataLowerC => charBeat 0x63#8
  | .dataLowerD => charBeat 0x64#8
  | .dataLowerE => charBeat 0x65#8
  | .dataLowerF => charBeat 0x66#8
  | .multHighG => charBeat 0x67#8
  | .multHighH => charBeat 0x68#8
  | .multHighI => charBeat 0x69#8
  | .multHighJ => charBeat 0x6A#8
  | .multHighK => charBeat 0x6B#8
  | .multHighL => charBeat 0x6C#8
  | .multHighM => charBeat 0x6D#8
  | .multHighN => charBeat 0x6E#8
  | .multHighO => charBeat 0x6F#8
  | .multHighP => charBeat 0x70#8
  | .multHighQ => charBeat 0x71#8
  | .multHighR => charBeat 0x72#8
  | .multHighS => charBeat 0x73#8
  | .multHighT => charBeat 0x74#8
  | .multHighU => charBeat 0x75#8
  | .multHighV => charBeat 0x76#8
  | .multHighW => charBeat 0x77#8
  | .multHighX => charBeat 0x78#8
  | .multHighY => charBeat 0x79#8
  | .multHighZ => charBeat 0x7A#8
  | .invalid0x7B => charBeat 0x7B#8
  | .invalid0x7C => charBeat 0x7C#8
  | .invalid0x7D => charBeat 0x7D#8
  | .invalid0x7E => charBeat 0x7E#8
  | .invalid0x7F => charBeat 0x7F#8
  | .invalid0x80 => charBeat 0x80#8
  | .invalid0x81 => charBeat 0x81#8
  | .invalid0x82 => charBeat 0x82#8
  | .invalid0x83 => charBeat 0x83#8
  | .invalid0x84 => charBeat 0x84#8
  | .invalid0x85 => charBeat 0x85#8
  | .invalid0x86 => charBeat 0x86#8
  | .invalid0x87 => charBeat 0x87#8
  | .invalid0x88 => charBeat 0x88#8
  | .invalid0x89 => charBeat 0x89#8
  | .invalid0x8A => charBeat 0x8A#8
  | .invalid0x8B => charBeat 0x8B#8
  | .invalid0x8C => charBeat 0x8C#8
  | .invalid0x8D => charBeat 0x8D#8
  | .invalid0x8E => charBeat 0x8E#8
  | .invalid0x8F => charBeat 0x8F#8
  | .invalid0x90 => charBeat 0x90#8
  | .invalid0x91 => charBeat 0x91#8
  | .invalid0x92 => charBeat 0x92#8
  | .invalid0x93 => charBeat 0x93#8
  | .invalid0x94 => charBeat 0x94#8
  | .invalid0x95 => charBeat 0x95#8
  | .invalid0x96 => charBeat 0x96#8
  | .invalid0x97 => charBeat 0x97#8
  | .invalid0x98 => charBeat 0x98#8
  | .invalid0x99 => charBeat 0x99#8
  | .invalid0x9A => charBeat 0x9A#8
  | .invalid0x9B => charBeat 0x9B#8
  | .invalid0x9C => charBeat 0x9C#8
  | .invalid0x9D => charBeat 0x9D#8
  | .invalid0x9E => charBeat 0x9E#8
  | .invalid0x9F => charBeat 0x9F#8
  | .invalid0xA0 => charBeat 0xA0#8
  | .invalid0xA1 => charBeat 0xA1#8
  | .invalid0xA2 => charBeat 0xA2#8
  | .invalid0xA3 => charBeat 0xA3#8
  | .invalid0xA4 => charBeat 0xA4#8
  | .invalid0xA5 => charBeat 0xA5#8
  | .invalid0xA6 => charBeat 0xA6#8
  | .invalid0xA7 => charBeat 0xA7#8
  | .invalid0xA8 => charBeat 0xA8#8
  | .invalid0xA9 => charBeat 0xA9#8
  | .invalid0xAA => charBeat 0xAA#8
  | .invalid0xAB => charBeat 0xAB#8
  | .invalid0xAC => charBeat 0xAC#8
  | .invalid0xAD => charBeat 0xAD#8
  | .invalid0xAE => charBeat 0xAE#8
  | .invalid0xAF => charBeat 0xAF#8
  | .invalid0xB0 => charBeat 0xB0#8
  | .invalid0xB1 => charBeat 0xB1#8
  | .invalid0xB2 => charBeat 0xB2#8
  | .invalid0xB3 => charBeat 0xB3#8
  | .invalid0xB4 => charBeat 0xB4#8
  | .invalid0xB5 => charBeat 0xB5#8
  | .invalid0xB6 => charBeat 0xB6#8
  | .invalid0xB7 => charBeat 0xB7#8
  | .invalid0xB8 => charBeat 0xB8#8
  | .invalid0xB9 => charBeat 0xB9#8
  | .invalid0xBA => charBeat 0xBA#8
  | .invalid0xBB => charBeat 0xBB#8
  | .invalid0xBC => charBeat 0xBC#8
  | .invalid0xBD => charBeat 0xBD#8
  | .invalid0xBE => charBeat 0xBE#8
  | .invalid0xBF => charBeat 0xBF#8
  | .invalid0xC0 => charBeat 0xC0#8
  | .invalid0xC1 => charBeat 0xC1#8
  | .invalid0xC2 => charBeat 0xC2#8
  | .invalid0xC3 => charBeat 0xC3#8
  | .invalid0xC4 => charBeat 0xC4#8
  | .invalid0xC5 => charBeat 0xC5#8
  | .invalid0xC6 => charBeat 0xC6#8
  | .invalid0xC7 => charBeat 0xC7#8
  | .invalid0xC8 => charBeat 0xC8#8
  | .invalid0xC9 => charBeat 0xC9#8
  | .invalid0xCA => charBeat 0xCA#8
  | .invalid0xCB => charBeat 0xCB#8
  | .invalid0xCC => charBeat 0xCC#8
  | .invalid0xCD => charBeat 0xCD#8
  | .invalid0xCE => charBeat 0xCE#8
  | .invalid0xCF => charBeat 0xCF#8
  | .invalid0xD0 => charBeat 0xD0#8
  | .invalid0xD1 => charBeat 0xD1#8
  | .invalid0xD2 => charBeat 0xD2#8
  | .invalid0xD3 => charBeat 0xD3#8
  | .invalid0xD4 => charBeat 0xD4#8
  | .invalid0xD5 => charBeat 0xD5#8
  | .invalid0xD6 => charBeat 0xD6#8
  | .invalid0xD7 => charBeat 0xD7#8
  | .invalid0xD8 => charBeat 0xD8#8
  | .invalid0xD9 => charBeat 0xD9#8
  | .invalid0xDA => charBeat 0xDA#8
  | .invalid0xDB => charBeat 0xDB#8
  | .invalid0xDC => charBeat 0xDC#8
  | .invalid0xDD => charBeat 0xDD#8
  | .invalid0xDE => charBeat 0xDE#8
  | .invalid0xDF => charBeat 0xDF#8
  | .invalid0xE0 => charBeat 0xE0#8
  | .invalid0xE1 => charBeat 0xE1#8
  | .invalid0xE2 => charBeat 0xE2#8
  | .invalid0xE3 => charBeat 0xE3#8
  | .invalid0xE4 => charBeat 0xE4#8
  | .invalid0xE5 => charBeat 0xE5#8
  | .invalid0xE6 => charBeat 0xE6#8
  | .invalid0xE7 => charBeat 0xE7#8
  | .invalid0xE8 => charBeat 0xE8#8
  | .invalid0xE9 => charBeat 0xE9#8
  | .invalid0xEA => charBeat 0xEA#8
  | .invalid0xEB => charBeat 0xEB#8
  | .invalid0xEC => charBeat 0xEC#8
  | .invalid0xED => charBeat 0xED#8
  | .invalid0xEE => charBeat 0xEE#8
  | .invalid0xEF => charBeat 0xEF#8
  | .invalid0xF0 => charBeat 0xF0#8
  | .invalid0xF1 => charBeat 0xF1#8
  | .invalid0xF2 => charBeat 0xF2#8
  | .invalid0xF3 => charBeat 0xF3#8
  | .invalid0xF4 => charBeat 0xF4#8
  | .invalid0xF5 => charBeat 0xF5#8
  | .invalid0xF6 => charBeat 0xF6#8
  | .invalid0xF7 => charBeat 0xF7#8
  | .invalid0xF8 => charBeat 0xF8#8
  | .invalid0xF9 => charBeat 0xF9#8
  | .invalid0xFA => charBeat 0xFA#8
  | .invalid0xFB => charBeat 0xFB#8
  | .invalid0xFC => charBeat 0xFC#8
  | .invalid0xFD => charBeat 0xFD#8
  | .invalid0xFE => charBeat 0xFE#8
  | .invalid0xFF => charBeat 0xFF#8
  | .endBeat c => .rldBeat (1#1 ++ c)
  | .hexByte last b => .hexBeat (BitVec.ofBool last ++ b)
  | .csrRead a d => .hostOp (hostOpWord false a d)
  | .ctrlWrite d => .hostOp (hostOpWord true 0x00#8 d)
  | .csrWrite a d => .hostOp (hostOpWord true a d)
  | .hexStart d => .hostOp (hostOpWord true 0x00#8 d)
  | .hexStop d => .hostOp (hostOpWord true 0x00#8 d)
  | .rldStart d => .hostOp (hostOpWord true 0x00#8 d)
  | .rldAbort d => .hostOp (hostOpWord true 0x00#8 d)
  | .lutEncode d => .hostOp (hostOpWord true 0x30#8 d)
  | .lutDecode d => .hostOp (hostOpWord true 0x38#8 d)

end Sys2Proof
end

