-- ==== Sys2Proof/Machine/Fetch.lean ====
section
/-! DEFINITION. Whose turn it is and what it brings: the block fetches no instruction (R31, R97), it is
presented host accesses and beats in an interleaving that is free (spec/20_memory.md R93). -/

namespace Sys2Proof.Machine

/-- What a turn brings: no instruction, with the state it leaves, or an instruction with the state it runs
in. -/
inductive Fetched where
  | nothing (s : State)
  | instr (i : Instr) (s : State)
deriving DecidableEq, Repr

/-- One turn, its entry of the schedule already used (R93). A beat that is not accepted stays presented
(R92), and a turn of a port at which nothing is presented brings nothing (log 10). -/
def takeTurn (t : Turn) (s : State) : Fetched :=
  match t with
  | .host =>
    match s.hostIn with
    | [] => .nothing s
    | w :: ws => .instr (decode (.hostOp w)) { s with hostIn := ws }
  | .hexIn =>
    match s.hexIn with
    | [] => .nothing s
    | w :: ws =>
      if hexInReady s then .instr (decode (.hexBeat w)) { s with hexIn := ws } else .nothing s
  | .rldIn =>
    match s.rldIn with
    | [] => .nothing s
    | w :: ws =>
      if rldInReady s then .instr (decode (.rldBeat w)) { s with rldIn := ws } else .nothing s
  | .hexOut => .nothing (takeHexOut s)
  | .rldOut => .nothing (takeRldOut s)
  | .rst => .nothing (resetBlock s)

/-- The next turn of the schedule; without one, nothing happens and the units hold their state (R362). -/
def fetch (s : State) : Fetched :=
  match s.schedule with
  | [] => .nothing s
  | t :: ts => takeTurn t { s with schedule := ts }

/-- An RLD that accepts a beat, from one that does not: a run of one row of one byte in packed form, with no
output queued. What the host's RLD_START with ROWBYTES = 1 and TOTAL = 1 leaves (R241). -/
def readyRld (u : RldUnit) : RldUnit :=
  { u.latch { Csr.reset with rowbytes := 1, total := 1 } with height := 1, state := .run, outq := [] }

/-- A HEX unit that accepts a beat, from one that does not: a run with one byte a row and no output queued. -/
def readyHex (u : HexUnit) : HexUnit :=
  { u with state := .run, rb := 1, upper := false, idx := 0, rows := 0, err := .none, detail := .none, outq := [] }

/-- Present an input first at its port and give that port the next turn. A beat's unit is made ready for it
where it is not (log 9). -/
def present (x : Input) (s : State) : State :=
  match x with
  | .hostOp w => { s with hostIn := w :: s.hostIn, schedule := .host :: s.schedule }
  | .hexBeat w =>
    { s with
      hex := if hexInReady s then s.hex else readyHex s.hex
      hexIn := w :: s.hexIn
      schedule := .hexIn :: s.schedule }
  | .rldBeat w =>
    { s with
      rld := if rldInReady s then s.rld else readyRld s.rld
      rldIn := w :: s.rldIn
      schedule := .rldIn :: s.schedule }

/-- Present a row's word, in the format its width gives it (log 8). -/
def presentWord (nbits w : Nat) (s : State) : State :=
  match tableFormat nbits with
  | some .rldBeat => present (.rldBeat (BitVec.ofNat 9 w)) s
  | some .hexBeat => present (.hexBeat (BitVec.ofNat 9 w)) s
  | some .hostOp => present (.hostOp (BitVec.ofNat 41 w)) s
  | none => s

end Sys2Proof.Machine
end

