-- ==== Sys2Proof/Machine/Step.lean ====
section
/-! DEFINITION. One step of the block: one turn of the interleaving (spec/00_scope.md R3, spec/20_memory.md
R93). -/

namespace Sys2Proof.Machine

/-- One atomic step (R3, R93): the next turn, and the instruction it brings, if any. -/
def step (s : State) : Host.Outcome State Fault Refusal :=
  match fetch s with
  | .nothing t => .next t
  | .instr i t => exec i t

/-- The state with one input presented so that the next step runs it (log 9). -/
def State.withFetchWord (s : State) (nbits w : Nat) : State := presentWord nbits w s

end Sys2Proof.Machine
end

