-- ==== Sys2Proof/Machine/RefCompress.lean ====
section
/-! DEFINITION. The reference compressor of spec/42_reference_compressor.md, a pure function that is no part of
the hardware (R210), and the host's scripts of beats (spec/30_encoding.md R120). No step of the machine calls
anything here: the round-trip law R219 speaks of it. -/

namespace Sys2Proof.Machine

/-- `HexRow(b, upper)` (R185): the hex characters of a row, high nibble first. -/
def hexRow (upper : Bool) (row : List Byte) : List Byte :=
  row.flatMap (fun b => [hexChar (hiNibble b) upper, hexChar (loNibble b) upper])

/-- The maximal runs of a row, left to right (R212). DESIGN CHOICE (log 21): the empty row, outside the domain of
R211, has no runs. -/
def runsOf : List Byte → List (Byte × Nat)
  | [] => []
  | c :: cs =>
    match runsOf cs with
    | [] => [(c, 1)]
    | (d, n) :: rest => if c = d then (d, n + 1) :: rest else (c, 1) :: (d, n) :: rest

/-- The characters of an ALUT token: `len` of them (R154, R213). -/
def tokenChars (t : Token) : List Byte :=
  if t.len = 0 then [] else if t.len = 1 then [t.tok0] else [t.tok0, t.tok1]

/-- `Tok(ch, c)` for a run of at most 400 characters (R213). -/
def shortTok (ch : Byte) (c : Nat) : List Byte :=
  if c = 1 then [ch]
  else if c = 2 then [ch, ch]
  else tokenChars (alutEncode (BitVec.ofNat 16 c)) ++ [ch]

/-- `Tok(ch, c)` (R213): pieces of 400 first, then the remainder, which is 1..400 (R215). DESIGN CHOICE (log 21):
a run of 0 characters, which R212 rules out, gives the character once. -/
def tok (ch : Byte) (c : Nat) : List Byte :=
  let pieces := (c - 1) / 400
  (List.replicate pieces (shortTok ch 400)).flatten ++ shortTok ch (c - 400 * pieces)

/-- A row's tokens, its last run by the shortcuts of R214. DESIGN CHOICE (log 21): no runs, outside the domain of
R211, give no tokens. -/
def foldRuns : List (Byte × Nat) → List Byte
  | [] => []
  | [(ch, c)] => if ch = 0x30#8 then [0x2C#8] else if ch = 0x66#8 then [0x21#8] else tok ch c
  | (ch, c) :: rest => tok ch c ++ foldRuns rest

/-- `Fold(s)` (R214). -/
def foldRow (s : List Byte) : List Byte := foldRuns (runsOf s)

/-- The rows after one whose folded string is given: `:` where a row folds to the same string (R216). -/
def compressAfter (last : Option (List Byte)) : List (List Byte) → List Byte
  | [] => []
  | r :: rs =>
    (if last = some (foldRow r) then [0x3A#8] else foldRow r) ++ compressAfter (some (foldRow r)) rs

/-- `RefCompress(rows)` (R216, R217). R211 defines it only on H ≥ 1 rows of 2R characters each, R ≥ 1. DESIGN
CHOICE (log 21): no rows give the empty body, an empty row folds to the empty string, and rows of other or
unequal lengths fold and compare as they are. -/
def refCompress (rows : List (List Byte)) : List Byte := compressAfter none rows

/-- The uncompressed body: the hex rows joined by LF (R219). DESIGN CHOICE (log 21): outside the domain of R211, no
rows give the empty body and rows of any length are joined as they are. -/
def joinRows (rows : List (List Byte)) : List Byte := (rows.intersperse [0x0A#8]).flatten

/-- The End beat, with CHAR 0 (R112). -/
def endBeatWord : BitVec 9 := 0x100#9

/-- `RLDBODY` (R120): one Char beat for each character, then the End beat. -/
def bodyBeats (body : List Byte) : List (BitVec 9) := body.map (fun c => 0#1 ++ c) ++ [endBeatWord]

/-- `HEXROW` (R120): one HEXBEAT for each byte, LAST = 1 on the last. -/
def hexRowBeats : List Byte → List (BitVec 9)
  | [] => []
  | [b] => [1#1 ++ b]
  | b :: bs => (0#1 ++ b) :: hexRowBeats bs

end Sys2Proof.Machine
end

