-- ==== Sys2Proof/Safety.lean ====
section
/-! DEFINITION. The terms the claims use: the invariants of the units (spec/10_state.md R57,
spec/60_exceptions.md R331, R332), a row as it leaves the RLD (spec/43_rld_control.md R245), what a beat leaves
alone, a run of beats through `step`, and the end of a run (spec/43_rld_control.md R253). -/

namespace Sys2Proof.Machine

/-- The next state of an outcome, if it is one. -/
def nextOf (o : Host.Outcome State Fault Refusal) : Option State :=
  match o with
  | .next s => some s
  | .fault _ => none
  | .refused _ => none

/-! Invariants. -/

/-- R57 for the HEX unit in RUN. -/
structure HexRunInv (u : HexUnit) : Prop where
  rb_pos : 1 ≤ u.rb.toNat
  idx_lt : u.idx.toNat < u.rb.toNat

/-- The HEX unit: R57 in RUN; it is IDLE exactly while HEX_EN is 0 (R182, R183); BYTE_IDX is 0 in IDLE (R183);
ERR is the kind of DETAIL, one of the unit's own details (R332), and it is 0 in RUN and not 0 in ERROR
(R331). -/
structure HexInv (c : Csr) (u : HexUnit) : Prop where
  run : u.state = .run → HexRunInv u
  enabled : c.hexEn = true ↔ u.state ≠ .idle
  idle_idx : u.state = .idle → u.idx = 0
  err_kind : u.err = u.detail.kind
  own_detail : u.detail = .none ∨ u.detail = .rZero ∨ u.detail = .hexLastMismatch
  run_err : u.state = .run → u.err = .none
  error_err : u.state = .error → u.err ≠ .none

/-- R57 for the RLD in RUN, and what makes its buffers fit: every nibble placed in the current row and, where
there is a previous row, every nibble of it, was written since reset (R53, R371). -/
structure RldRunInv (u : RldUnit) : Prop where
  rb_pos : 1 ≤ u.rb.toNat
  rb_max : u.rb.toNat ≤ Config.rbMax
  height_pos : 1 ≤ u.height.toNat
  cursor_lt : u.cursor.toNat < 2 * u.rb.toNat
  counter_le : u.counter.toNat ≤ 2 * u.rb.toNat - u.cursor.toNat
  rows_le : u.rows.toNat ≤ u.height.toNat
  last_row : u.rows = u.height → u.cursor = 0 ∧ u.counter = 0
  has_prev : u.hasPrev = true ↔ 1 ≤ u.rows.toNat
  cur_written : u.cursor.toNat ≤ u.cur.length
  prev_written : u.hasPrev = true → 2 * u.rb.toNat ≤ u.prev.length

/-- What DONE means (R246, R247): every row complete, nothing pending, the body length as declared. -/
structure RldDoneInv (u : RldUnit) : Prop where
  rows_eq : u.rows = u.height
  counter_zero : u.counter = 0
  cursor_zero : u.cursor = 0
  length : u.bodylen = 0 ∨ u.bodycnt = u.bodylen

/-- The RLD: R57 in RUN; the post-conditions in DONE; buffers no longer than 2·RB_MAX (R53); ERR is the kind of
DETAIL, never the HEX unit's detail (R332); it is 0 in RUN and DONE and not 0 in ERROR (R331). -/
structure RldInv (u : RldUnit) : Prop where
  run : u.state = .run → RldRunInv u
  done : u.state = .done → RldDoneInv u
  cur_fits : u.cur.length ≤ 2 * Config.rbMax
  prev_fits : u.prev.length ≤ 2 * Config.rbMax
  err_kind : u.err = u.detail.kind
  own_detail : u.detail ≠ .hexLastMismatch
  run_err : u.state = .run → u.err = .none
  done_err : u.state = .done → u.err = .none
  error_err : u.state = .error → u.err ≠ .none

/-- The invariant of the block. -/
structure BlockInv (s : State) : Prop where
  hex : HexInv s.csr s.hex
  rld : RldInv s.rld

/-! What leaves the units. -/

/-- The sixteen hex characters of R181 in nibble order. -/
def hexDigits (upper : Bool) : List Byte :=
  [0x30, 0x31, 0x32, 0x33, 0x34, 0x35, 0x36, 0x37, 0x38, 0x39] ++
    (if upper then [0x41, 0x42, 0x43, 0x44, 0x45, 0x46] else [0x61, 0x62, 0x63, 0x64, 0x65, 0x66])

/-- A row of `r` bytes with nibbles `nib`, as R245 emits it: in packed form byte j is nibbles 2j and 2j+1 and
ROW_END is on byte r-1 (R248); in pixel form pixel q is bit 7 - q mod 8 of byte q div 8, black 0x00, white
0xFF, and ROW_END is on pixel 8r-1 (R250). -/
def emittedRow (pix : Bool) (r : Nat) (nib : Nat → Nibble) : List OutBeat :=
  let byte := fun j => nib (2 * j) ++ nib (2 * j + 1)
  if pix then
    (List.range (8 * r)).map (fun q =>
      ⟨if (byte (q / 8)).getLsbD (7 - q % 8) then 0x00#8 else 0xFF#8, decide (q + 1 = 8 * r)⟩)
  else (List.range r).map (fun j => ⟨byte j, decide (j + 1 = r)⟩)

/-- `t` is `s` after a Char beat that completed the current row with nibbles `nib`: the row is emitted whole,
both buffers hold it, the cursor and the counter are 0, one more row is complete, a previous row exists, the
character is counted, and nothing else changed (R245, R270). Of the buffers it says the elements 0..2R-1, the
only ones that take part in a run (R53); the others are `Obligations.ElementsBeyondTheRowStay`. -/
structure RowCompleted (nib : Nat → Nibble) (s t : State) : Prop where
  frame : t = s.withRld { s.rld with
    bodycnt := s.rld.bodycnt + 1
    cursor := 0
    counter := 0
    rows := s.rld.rows + 1
    hasPrev := true
    cur := t.rld.cur
    prev := t.rld.prev
    outq := t.rld.outq }
  emitted : t.rld.outq = emittedRow s.rld.pix s.rld.rb.toNat nib
  cur_row : ∀ i, i < 2 * s.rld.rb.toNat → t.rld.curAt i = nib i
  prev_row : ∀ i, i < 2 * s.rld.rb.toNat → t.rld.prevAt i = nib i

/-- `s` after a Char beat that raised an error: counted, and otherwise only the unit state, ERR and DETAIL
changed (R340). -/
def charError (k : ErrKind) (d : Detail) (s : State) : State :=
  s.withRld { s.rld with
    bodycnt := s.rld.bodycnt + 1
    state := .error
    err := k
    detail := d }

/-- The rows of Instr whose character EXTRA_DATA stops after the last row (R271): every class but INVALID and
SKIP. -/
def bodyRows : List Instr :=
  Instr.multLowRows.map Prod.fst ++ Instr.multHighRows.map Prod.fst ++ Instr.dataDigitRows.map Prod.fst ++
    Instr.dataLowerRows.map Prod.fst ++ Instr.dataUpperRows.map Prod.fst ++
    ([.fillWhite, .fillBlack, .repeatRow] : List Instr)

/-! Runs of beats through `step`. -/

/-- One RLDBEAT presented and given the next turn. -/
def sendRld (w : BitVec 9) (s : State) : Host.Outcome State Fault Refusal :=
  step { s with rldIn := w :: s.rldIn, schedule := .rldIn :: s.schedule }

/-- One HEXBEAT presented and given the next turn. -/
def sendHex (w : BitVec 9) (s : State) : Host.Outcome State Fault Refusal :=
  step { s with hexIn := w :: s.hexIn, schedule := .hexIn :: s.schedule }

/-- The RLD's consumer takes every queued beat, as `takeRldOut` does one at a time. -/
def drainRld (s : State) : State := s.withRld { s.rld with outq := [] }

/-- The HEX unit's consumer takes every queued beat. -/
def drainHex (s : State) : State := s.withHex { s.hex with outq := [] }

/-- Beats sent to the RLD one by one, its consumer taking each one's output before the next: the last state,
and all the output in order. -/
def feedRld : List (BitVec 9) → State → State × List OutBeat
  | [], s => (s, [])
  | w :: ws, s =>
    match sendRld w s with
    | .next t =>
      let r := feedRld ws (drainRld t)
      (r.1, t.rld.outq ++ r.2)
    | .fault _ => (s, [])
    | .refused _ => (s, [])

/-- Beats sent to the HEX unit one by one, its consumer taking each one's output before the next. -/
def feedHex : List (BitVec 9) → State → State × List OutBeat
  | [], s => (s, [])
  | w :: ws, s =>
    match sendHex w s with
    | .next t =>
      let r := feedHex ws (drainHex t)
      (r.1, t.hex.outq ++ r.2)
    | .fault _ => (s, [])
    | .refused _ => (s, [])

/-- The end of an RLD run (R253): DONE or ERROR, with no output queued. -/
def rldRunEnded (s : State) : Bool :=
  (s.rld.state = .done || s.rld.state = .error) && s.rld.outq.isEmpty

end Sys2Proof.Machine
end

