-- ==== Sys2Proof/Certificates/Slice0/Obligations.lean ====
section
/-! DEFINITION. The statements for the provers, each with the rule of spec/ it formalises or the sections it
rests on. -/

open Sys2Proof Sys2Proof.Machine

/-! Encodings. -/

/-- Decoding the encoding of a well-formed instruction gives it back, every operand at every value the encoding
admits (R110, R113, R122). Which row names a CTRL write is the model's choice (log 6). -/
def Obligations.EncodeThenDecodeGivesTheInstruction : Prop :=
  ∀ i : Instr, wellFormed i = true → decode (encode i) = i

/-- Every input of every format is the encoding of the well-formed instruction it decodes to, and no two inputs
are confused (R110, R113, R119, R122). Three of its parts are the model's choices: that no bit of an End beat or
of a host read is dropped, since the bits R110 and R112 call ignored are kept as operands (log 18); that the
writes of LUT_COUNT and LUT_CHAR are rows of their own and no CSR_WRITE (log 7); and which row names a CTRL write
(log 6). -/
def Obligations.DecodeThenEncodeGivesTheInput : Prop :=
  ∀ x : Input, wellFormed (decode x) = true ∧ encode (decode x) = x

/-- The opcode table's 256 Char rows and the class map of R113 agree: a Char beat does what its class says,
with the operand value of its class. -/
def Obligations.CharBeatActsByItsClass : Prop :=
  ∀ (c : Byte) (s : State), exec (decode (charBeat c)) s =
    match classOf c with
    | .data n => rldBeat (charData n) s
    | .mult v => rldBeat (charMult v) s
    | .fillWhite => rldBeat (charFill 0x0#4) s
    | .fillBlack => rldBeat (charFill 0xF#4) s
    | .repeatRow => rldBeat charRepeat s
    | .skip => rldBeat charSkip s
    | .invalid => rldBeat charInvalid s

/-- A few inputs written out bit by bit from R110 and R113 decode to the instructions they stand for. -/
def Obligations.SampleInputsDecode : Prop :=
  decode (.rldBeat 0b001000111#9) = .multLowG ∧
  decode (.rldBeat 0b001111010#9) = .multHighZ ∧
  decode (.rldBeat 0b000110000#9) = .dataDigit0 ∧
  decode (.rldBeat 0b001100110#9) = .dataLowerF ∧
  decode (.rldBeat 0b001000110#9) = .dataUpperF ∧
  decode (.rldBeat 0b000101100#9) = .fillWhite ∧
  decode (.rldBeat 0b000111010#9) = .repeatRow ∧
  decode (.rldBeat 0b000001101#9) = .skipCr ∧
  decode (.rldBeat 0b001011010#9) = .invalid0x5A ∧
  decode (.rldBeat 0b100000000#9) = .endBeat 0x00#8 ∧
  decode (.hexBeat 0b110100101#9) = .hexByte true 0xA5#8 ∧
  decode (.hostOp 0x01800000000#41) = .csrRead 0x18#8 0#32 ∧
  decode (.hostOp 0x10400000002#41) = .csrWrite 0x04#8 2#32 ∧
  decode (.hostOp 0x10000000100#41) = .rldStart 0x100#32 ∧
  decode (.hostOp 0x13000000015#41) = .lutEncode 0x15#32

/-- The CHAR bits of an End beat and the DATA bits of a host read are ignored, whatever their value
(R110, R112). -/
def Obligations.IgnoredBitsHaveNoEffect : Prop :=
  (∀ (w : BitVec 9) (s : State), w.getLsbD 8 = true →
    exec (decode (.rldBeat w)) s = exec (.endBeat 0x00#8) s) ∧
  (∀ (a : BitVec 8) (d : Word32) (s : State), exec (.csrRead a d) s = exec (.csrRead a 0#32) s)

/-! Steps. -/

/-- A turn of a port whose input is accepted runs the instruction that the port's first input decodes to, on the
state without that input and without that turn. The host's access is always accepted; a beat is accepted in
RUN with an empty output queue (R91, R92, R93; the ports and the schedule are the model's, log 4). -/
def Obligations.StepRunsThePresentedInput : Prop :=
  (∀ (s : State) (w : BitVec 41) (ws : List (BitVec 41)) (ts : List Turn),
    s.schedule = .host :: ts → s.hostIn = w :: ws →
    step s = exec (decode (.hostOp w)) { s with schedule := ts, hostIn := ws }) ∧
  (∀ (s : State) (w : BitVec 9) (ws : List (BitVec 9)) (ts : List Turn),
    s.schedule = .hexIn :: ts → s.hexIn = w :: ws → s.hex.state = .run → s.hex.outq = [] →
    step s = exec (decode (.hexBeat w)) { s with schedule := ts, hexIn := ws }) ∧
  (∀ (s : State) (w : BitVec 9) (ws : List (BitVec 9)) (ts : List Turn),
    s.schedule = .rldIn :: ts → s.rldIn = w :: ws → s.rld.state = .run → s.rld.outq = [] →
    step s = exec (decode (.rldBeat w)) { s with schedule := ts, rldIn := ws })

/-- A beat at a unit that is not in RUN, or whose output queue is not empty, waits: its turn changes nothing but
the schedule, and the beat stays presented (R91, R92). Without a turn nothing happens (R362; log 10). -/
def Obligations.HeldBeatStaysPresented : Prop :=
  (∀ (s : State) (ts : List Turn), s.schedule = .hexIn :: ts → (s.hex.state ≠ .run ∨ s.hex.outq ≠ []) →
    step s = .next { s with schedule := ts }) ∧
  (∀ (s : State) (ts : List Turn), s.schedule = .rldIn :: ts → (s.rld.state ≠ .run ∨ s.rld.outq ≠ []) →
    step s = .next { s with schedule := ts }) ∧
  (∀ s : State, s.schedule = [] → step s = .next s)

/-- The meaning of a beat that its unit does not accept changes nothing (R91, R92; log 11). -/
def Obligations.UnacceptedBeatChangesNothing : Prop :=
  (∀ (w : BitVec 9) (s : State), (s.hex.state ≠ .run ∨ s.hex.outq ≠ []) →
    exec (decode (.hexBeat w)) s = .next s) ∧
  (∀ (w : BitVec 9) (s : State), (s.rld.state ≠ .run ∨ s.rld.outq ≠ []) →
    exec (decode (.rldBeat w)) s = .next s)

/-- A consumer's turn takes the oldest beat of its stream and nothing else changes; with none queued nothing is
taken (R82, R93). -/
def Obligations.ConsumersTakeTheOldestBeat : Prop :=
  (∀ (s : State) (b : OutBeat) (bs : List OutBeat) (ts : List Turn),
    s.schedule = .hexOut :: ts → s.hex.outq = b :: bs →
    hexOutBeat s = some b ∧ step s = .next { s with schedule := ts, hex := { s.hex with outq := bs } }) ∧
  (∀ (s : State) (b : OutBeat) (bs : List OutBeat) (ts : List Turn),
    s.schedule = .rldOut :: ts → s.rld.outq = b :: bs →
    rldOutBeat s = some b ∧ step s = .next { s with schedule := ts, rld := { s.rld with outq := bs } }) ∧
  (∀ (s : State) (ts : List Turn), s.schedule = .hexOut :: ts → s.hex.outq = [] →
    step s = .next { s with schedule := ts }) ∧
  (∀ (s : State) (ts : List Turn), s.schedule = .rldOut :: ts → s.rld.outq = [] →
    step s = .next { s with schedule := ts })

/-- The reset turn gives every register, unit state and field its value of R56, empties both output queues and
leaves every presented input presented (R370; what stays presented is log 13). -/
def Obligations.ResetTurnClearsTheBlock : Prop :=
  ∀ (s : State) (ts : List Turn), s.schedule = .rst :: ts →
    ∃ t, step s = .next t ∧
      t.csr = ⟨false, false, false, 0, 0, 0, 0, 0⟩ ∧
      t.hex = ⟨.idle, 0, false, 0, 0, .none, .none, []⟩ ∧
      (t.rld.state = .idle ∧ t.rld.rb = 0 ∧ t.rld.height = 0 ∧ t.rld.rows = 0 ∧ t.rld.cursor = 0 ∧
        t.rld.counter = 0 ∧ t.rld.hasPrev = false ∧ t.rld.pix = false ∧ t.rld.bodylen = 0 ∧
        t.rld.bodycnt = 0 ∧ t.rld.err = .none ∧ t.rld.detail = .none ∧ t.rld.outq = []) ∧
      t.hostIn = s.hostIn ∧ t.hexIn = s.hexIn ∧ t.rldIn = s.rldIn ∧ t.schedule = ts

/-- After reset every register reads as the table of R33 says: 0, but for LUT_TOKEN (R56, R372). -/
def Obligations.ResetRegistersRead : Prop :=
  ∀ k : Fin 16, nextOf (exec (.csrRead (BitVec.ofNat 8 (4 * k.val)) 0#32) State.reset) =
    some { State.reset with
      reply := some (.read (if k.val = 13 then 0x80000000#32 else 0x00000000#32) false) }

/-- The block never stops: every instruction and every step of every state answers a next state. For the events
that the spec names it follows from their effects: errors are unit states, OVF and bus errors, "and no other"
(R330), and an error branches nowhere (R341). For the rest it is the model's choice: an idle turn (log 10), a
beat that its unit does not accept (log 11) and an ill-formed term (log 17). -/
def Obligations.EveryEventHasANextState : Prop :=
  (∀ (i : Instr) (s : State), ∃ t, exec i s = .next t) ∧ (∀ s : State, ∃ t, step s = .next t)

/-! Invariants. -/

/-- The state after reset meets the invariant. -/
def Obligations.ResetMeetsTheInvariants : Prop := BlockInv State.reset

/-- Every step from a state that meets the invariant leaves a state that meets it: R57 while a unit is in RUN,
the post-conditions of R247 in DONE, the buffers' bound, and the ranges of ERR and DETAIL (R331, R332). -/
def Obligations.EveryStepKeepsTheInvariants : Prop :=
  ∀ s t : State, BlockInv s → step s = .next t → BlockInv t

/-- HEX_STATUS.STATE never reads 3 (R39). Where the invariant holds, no ERR field holds AlphabetOverflow,
InvalidThreshold or a reserved code (R331, R336, R337): HEX reads 0 or 1, the RLD reads 0, 1, 2 or 3. -/
def Obligations.StatusFieldsStayInRange : Prop :=
  (∀ (s t : State) (d v : Word32), exec (.csrRead 0x10#8 d) s = .next t → t.reply = some (.read v false) →
    v.extractLsb' 0 2 ≠ 3#2 ∧ (BlockInv s → (v.extractLsb' 4 4).toNat ≤ 1)) ∧
  (∀ (s t : State) (d v : Word32), exec (.csrRead 0x18#8 d) s = .next t → t.reply = some (.read v false) →
    BlockInv s → (v.extractLsb' 4 4).toNat ≤ 3)

/-! Body characters. -/

/-- MULT_LOW `G`..`Y` and MULT_HIGH `g`..`z`: the count is added to the counter exactly, where the sum is at most
the nibble units left in the row; else RUN_OVERFLOW (R272, R273). Only the counter and the body count change,
or, on the error, only what R340 names. -/
def Obligations.MultiplierAddsItsCount : Prop :=
  ∀ p ∈ Instr.multLowRows ++ Instr.multHighRows, ∀ s : State,
    s.rld.state = .run → s.rld.outq = [] → s.rld.rows ≠ s.rld.height →
    (s.rld.counter.toNat + p.2 ≤ 2 * s.rld.rb.toNat - s.rld.cursor.toNat →
      exec p.1 s = .next (s.withRld { s.rld with
        bodycnt := s.rld.bodycnt + 1
        counter := BitVec.ofNat 17 (s.rld.counter.toNat + p.2) }) ∧
      (BitVec.ofNat 17 (s.rld.counter.toNat + p.2)).toNat = s.rld.counter.toNat + p.2) ∧
    (2 * s.rld.rb.toNat - s.rld.cursor.toNat < s.rld.counter.toNat + p.2 →
      exec p.1 s = .next (charError .geometryMismatch .runOverflow s))

/-- EXTRA_DATA: a multiplier, data, fill or repeat character that arrives after all rows are complete raises
GeometryMismatch (R271). -/
def Obligations.ExtraDataAfterTheLastRow : Prop :=
  ∀ i ∈ bodyRows, ∀ s : State, s.rld.state = .run → s.rld.outq = [] → s.rld.rows = s.rld.height →
    exec i s = .next (charError .geometryMismatch .extraData s)

/-- Every one of the 190 INVALID rows raises MalformedField, BAD_CHAR, whatever has been decoded before it, also
after the last row (R118, R284). -/
def Obligations.InvalidCharacterRaisesBadChar : Prop :=
  ∀ i ∈ Instr.invalidRows, ∀ s : State, s.rld.state = .run → s.rld.outq = [] →
    exec i s = .next (charError .malformedField .badChar s)

/-- LF and CR are counted and have no other effect, also after the last row (R285). -/
def Obligations.SkipOnlyCountsTheCharacter : Prop :=
  ∀ i ∈ Instr.skipRows, ∀ s : State, s.rld.state = .run → s.rld.outq = [] →
    exec i s = .next (s.withRld { s.rld with bodycnt := s.rld.bodycnt + 1 })

/-- A data character places its nibble `max(counter, 1)` times from the cursor on. Where the run ends before the
row's end, it is written there and nowhere else in the row, the cursor moves by as much and the counter is
cleared; where it ends exactly at the row's end, the row completes with those nibbles; a run that would pass the
row's end raises RUN_OVERFLOW. Nothing else changes (R274, R275, R276, R277). -/
def Obligations.DataPlacesItsRun : Prop :=
  ∀ p ∈ Instr.dataDigitRows ++ Instr.dataLowerRows ++ Instr.dataUpperRows, ∀ s : State,
    s.rld.state = .run → s.rld.outq = [] → s.rld.rows ≠ s.rld.height →
    (s.rld.cursor.toNat + max s.rld.counter.toNat 1 < 2 * s.rld.rb.toNat →
      ∃ t, exec p.1 s = .next t ∧
        t = s.withRld { s.rld with
          bodycnt := s.rld.bodycnt + 1
          cursor := t.rld.cursor
          counter := 0
          cur := t.rld.cur } ∧
        t.rld.cursor.toNat = s.rld.cursor.toNat + max s.rld.counter.toNat 1 ∧
        ∀ i, i < 2 * s.rld.rb.toNat → t.rld.curAt i =
          if s.rld.cursor.toNat ≤ i ∧ i < s.rld.cursor.toNat + max s.rld.counter.toNat 1 then p.2
          else s.rld.curAt i) ∧
    (s.rld.cursor.toNat + max s.rld.counter.toNat 1 = 2 * s.rld.rb.toNat →
      ∃ t, exec p.1 s = .next t ∧
        RowCompleted (fun i => if s.rld.cursor.toNat ≤ i then p.2 else s.rld.curAt i) s t) ∧
    (2 * s.rld.rb.toNat < s.rld.cursor.toNat + max s.rld.counter.toNat 1 →
      exec p.1 s = .next (charError .geometryMismatch .runOverflow s))

/-- `,` and `!` complete the row with nibble 0 and nibble 15 from the cursor on; with a multiplier pending they
raise MalformedField, COUNT_AT_TERMINATOR instead (R278, R279, R280). -/
def Obligations.FillCompletesTheRow : Prop :=
  ∀ p ∈ ([(.fillWhite, 0x0#4), (.fillBlack, 0xF#4)] : List (Instr × Nibble)), ∀ s : State,
    s.rld.state = .run → s.rld.outq = [] → s.rld.rows ≠ s.rld.height →
    (s.rld.counter = 0 →
      ∃ t, exec p.1 s = .next t ∧
        RowCompleted (fun i => if s.rld.cursor.toNat ≤ i then p.2 else s.rld.curAt i) s t) ∧
    (s.rld.counter ≠ 0 → exec p.1 s = .next (charError .malformedField .countAtTerminator s))

/-- `:` completes the row with the previous row's nibbles; it fails by the first of its checks that applies: no
previous row, a multiplier pending, part of the row placed (R282). -/
def Obligations.RepeatCompletesThePreviousRow : Prop :=
  ∀ s : State, s.rld.state = .run → s.rld.outq = [] → s.rld.rows ≠ s.rld.height →
    (s.rld.hasPrev = false → exec .repeatRow s = .next (charError .malformedField .repeatNoPrev s)) ∧
    (s.rld.hasPrev = true → s.rld.counter ≠ 0 →
      exec .repeatRow s = .next (charError .malformedField .countAtTerminator s)) ∧
    (s.rld.hasPrev = true → s.rld.counter = 0 → s.rld.cursor ≠ 0 →
      exec .repeatRow s = .next (charError .malformedField .repeatMidRow s)) ∧
    (s.rld.hasPrev = true → s.rld.counter = 0 → s.rld.cursor = 0 →
      ∃ t, exec .repeatRow s = .next t ∧ RowCompleted s.rld.prevAt s t)

/-! The end, the start and the abort of a run. -/

/-- The End beat: DONE where no multiplier is pending, every row is complete and the body length is the declared
one or unchecked; else the first error that applies. Only the unit state, and on an error ERR and DETAIL,
change; the beat is not counted (R246). -/
def Obligations.EndBeatChecksAndEnds : Prop :=
  ∀ (c : Byte) (s : State), s.rld.state = .run → s.rld.outq = [] →
    exec (.endBeat c) s = .next (s.withRld
      (if s.rld.counter ≠ 0 then
        { s.rld with state := .error, err := .malformedField, detail := .countAtEnd }
      else if s.rld.rows.toNat < s.rld.height.toNat then
        { s.rld with state := .error, err := .geometryMismatch, detail := .shortBody }
      else if s.rld.bodylen ≠ 0 ∧ s.rld.bodycnt ≠ s.rld.bodylen then
        { s.rld with state := .error, err := .malformedField, detail := .bodylenMismatch }
      else { s.rld with state := .done }))

/-- A CTRL write with DATA[8] = 1 latches the configuration, clears the counts and ends in RUN, or in ERROR by the
first check that fails; Height is T div R, exactly, on success and 0 on failure. It keeps the buffers and the
output queue (R241, R242, R338). -/
def Obligations.RldStartLatchesAndChecks : Prop :=
  ∀ (d : Word32) (s : State), d.getLsbD 8 = true →
    ∀ i ∈ ([.rldStart d, .ctrlWrite d] : List Instr),
    let r := s.csr.rowbytes.toNat
    let n := s.csr.total.toNat
    let v : Detail :=
      if r = 0 then .rZero
      else if Config.rbMax < r then .rAboveMax
      else if n = 0 then .totalZero
      else if n % r ≠ 0 then .totalNotMultiple
      else .none
    ∃ t, exec i s = .next t ∧
      t.rld = { s.rld with
        state := if v = .none then .run else .error
        rb := s.csr.rowbytes
        height := t.rld.height
        rows := 0
        cursor := 0
        counter := 0
        hasPrev := false
        pix := d.getLsbD 2
        bodylen := s.csr.bodylen
        bodycnt := 0
        err := if v = .none then .none
          else if v = .totalNotMultiple then .geometryMismatch else .invalidDimension
        detail := v } ∧
      (v ≠ .none → t.rld.height = 0) ∧
      (v = .none → t.rld.height.toNat * r = n)

/-- A CTRL write with DATA[9] = 1 and DATA[8] = 0 takes the RLD to IDLE and keeps every other field of it, the
queued output among them (R243). -/
def Obligations.RldAbortGoesToIdle : Prop :=
  ∀ (d : Word32) (s : State), d.getLsbD 8 = false → d.getLsbD 9 = true →
    ∀ i ∈ ([.rldAbort d, .ctrlWrite d] : List Instr),
    ∃ t, exec i s = .next t ∧ t.rld = { s.rld with state := .idle }

/-- With DATA[8] = 1 the abort bit has no effect: the write does what it does with DATA[9] = 0 (R244). -/
def Obligations.StartOverridesAbort : Prop :=
  ∀ (d : Word32) (s : State), d.getLsbD 8 = true →
    exec (decode (.hostOp (hostOpWord true 0x00#8 d))) s =
      exec (decode (.hostOp (hostOpWord true 0x00#8 (d &&& 0xFFFFFDFF#32)))) s

/-! The HEX unit. -/

/-- A CTRL write with HEX_EN = 1 starts the HEX unit where HEX_EN was 0: with the registers' row length and the new
case, in RUN, or in ERROR where the row length is 0; queued characters stay. Where HEX_EN was 1 it is no start
and changes nothing in the unit (R182). -/
def Obligations.HexStartLatchesAndChecks : Prop :=
  ∀ (d : Word32) (s : State), d.getLsbD 0 = true →
    ∀ i ∈ ([.hexStart d, .ctrlWrite d] : List Instr),
    ∃ t, exec i s = .next t ∧
      t.hex = if s.csr.hexEn = true then s.hex else { s.hex with
        state := if s.csr.rowbytes = 0 then .error else .run
        rb := s.csr.rowbytes
        upper := d.getLsbD 1
        idx := 0
        rows := 0
        err := if s.csr.rowbytes = 0 then .invalidDimension else .none
        detail := if s.csr.rowbytes = 0 then .rZero else .none }

/-- A CTRL write that changes HEX_EN from 1 to 0 takes the HEX unit to IDLE with BYTE_IDX 0 and keeps every other
field of it, whatever the write does to the RLD: its words are named HEX_STOP, RLD_START or RLD_ABORT (R183). -/
def Obligations.HexStopGoesToIdle : Prop :=
  ∀ (d : Word32) (s : State), s.csr.hexEn = true → d.getLsbD 0 = false →
    ∀ i ∈ ([.hexStop d, .rldStart d, .rldAbort d, .ctrlWrite d] : List Instr),
    ∃ t, exec i s = .next t ∧ t.hex = { s.hex with state := .idle, idx := 0 }

/-- HEX_BYTE with LAST as the row position asks: the two hex characters of the byte, high nibble first, in the
latched case, ROW_END on the row's last character alone; the row position and the row count move on. With
LAST wrong: InvalidDimension, HEX_LAST_MISMATCH and no output. Nothing else changes (R181, R184). -/
def Obligations.HexByteEmitsTwoCharacters : Prop :=
  ∀ (last : Bool) (b : Byte) (s : State), s.hex.state = .run → s.hex.outq = [] →
    let atEnd : Bool := decide (s.hex.idx.toNat + 1 = s.hex.rb.toNat)
    (last = atEnd →
      exec (.hexByte last b) s = .next (s.withHex { s.hex with
        outq := [⟨(hexDigits s.hex.upper).getD (b.toNat / 16) 0, false⟩,
          ⟨(hexDigits s.hex.upper).getD (b.toNat % 16) 0, atEnd⟩]
        idx := if atEnd then 0 else s.hex.idx + 1
        rows := if atEnd then s.hex.rows + 1 else s.hex.rows })) ∧
    (last ≠ atEnd →
      exec (.hexByte last b) s = .next (s.withHex { s.hex with
        state := .error
        err := .invalidDimension
        detail := .hexLastMismatch }))

/-- A whole row through `step`: R bytes with LAST on the last one give exactly the 2R characters of HexRow, with
ROW_END on the last one alone, and leave the unit at the start of the next row with one more row counted
(R185). -/
def Obligations.HexRowComesOutWhole : Prop :=
  ∀ (row : List Byte) (s : State), s.hex.state = .run → s.hex.outq = [] → s.hex.idx = 0 →
    1 ≤ row.length → row.length = s.hex.rb.toNat →
    feedHex (hexRowBeats row) s =
      (s.withHex { s.hex with rows := s.hex.rows + 1 }, rowBeats (hexRow s.hex.upper row)) ∧
    (rowBeats (hexRow s.hex.upper row)).length = 2 * row.length

/-! Host accesses. -/

/-- A misaligned address and an address from 0x40 on are bus errors: a read answers 0 with csr_err, a write answers
csr_err, and no state changes. Every other access answers csr_err = 0 (R84). -/
def Obligations.BusErrorsChangeNothing : Prop :=
  ∀ (a : BitVec 8) (d : Word32) (s : State),
    ((a.toNat % 4 ≠ 0 ∨ 0x40 ≤ a.toNat) →
      exec (.csrRead a d) s = .next { s with reply := some (.read 0#32 true) } ∧
      exec (.csrWrite a d) s = .next { s with reply := some (.write true) }) ∧
    (¬ (a.toNat % 4 ≠ 0 ∨ 0x40 ≤ a.toNat) →
      (∃ v, exec (.csrRead a d) s = .next { s with reply := some (.read v false) }) ∧
      (∃ t, exec (.csrWrite a d) s = .next t ∧ t.reply = some (.write false)))

/-- What a read of each register that is not a status register answers; it changes nothing but the answer
(R300, R89). The RO counts and the RW registers read as their fields, zero-extended. -/
def Obligations.RegisterReadsShowTheirFields : Prop :=
  ∀ (d : Word32) (s : State),
    exec (.csrRead 0x04#8 d) s = .next (s.withReply (.read (s.csr.rowbytes.setWidth 32) false)) ∧
    exec (.csrRead 0x08#8 d) s = .next (s.withReply (.read s.csr.total false)) ∧
    exec (.csrRead 0x0C#8 d) s = .next (s.withReply (.read s.csr.bodylen false)) ∧
    exec (.csrRead 0x14#8 d) s = .next (s.withReply (.read s.hex.rows false)) ∧
    exec (.csrRead 0x1C#8 d) s = .next (s.withReply (.read s.rld.rows false)) ∧
    exec (.csrRead 0x20#8 d) s = .next (s.withReply (.read s.rld.height false)) ∧
    exec (.csrRead 0x24#8 d) s = .next (s.withReply (.read s.rld.bodycnt false)) ∧
    exec (.csrRead 0x28#8 d) s = .next (s.withReply (.read (s.rld.cursor.setWidth 32) false)) ∧
    exec (.csrRead 0x2C#8 d) s = .next (s.withReply (.read (s.rld.counter.setWidth 32) false)) ∧
    exec (.csrRead 0x30#8 d) s = .next (s.withReply (.read (s.csr.lutCount.setWidth 32) false)) ∧
    exec (.csrRead 0x38#8 d) s = .next (s.withReply (.read (s.csr.lutChar.setWidth 32) false))

/-- CTRL, HEX_STATUS and RLD_STATUS read field by field as their tables lay them out, reserved bits and pulse bits
0 (R35, R39, R41), with the codes of R300 for the unit states, of R331 for ERR and of R332 for DETAIL. -/
def Obligations.StatusReadsShowTheirFields : Prop :=
  let kind : ErrKind → BitVec 4 := fun k => match k with
    | .none => 0#4 | .invalidDimension => 1#4 | .malformedField => 2#4 | .geometryMismatch => 3#4
    | .alphabetOverflow => 4#4 | .invalidThreshold => 5#4
  let detail : Detail → BitVec 8 := fun k => match k with
    | .none => 0x00#8 | .rZero => 0x01#8 | .rAboveMax => 0x02#8 | .totalZero => 0x03#8
    | .totalNotMultiple => 0x04#8 | .badChar => 0x10#8 | .repeatNoPrev => 0x11#8
    | .countAtTerminator => 0x12#8 | .repeatMidRow => 0x13#8 | .countAtEnd => 0x14#8
    | .bodylenMismatch => 0x15#8 | .runOverflow => 0x20#8 | .extraData => 0x21#8 | .shortBody => 0x22#8
    | .hexLastMismatch => 0x30#8
  ∀ (d : Word32) (s : State),
    (∃ v, exec (.csrRead 0x00#8 d) s = .next (s.withReply (.read v false)) ∧
      v.getLsbD 0 = s.csr.hexEn ∧ v.getLsbD 1 = s.csr.hexUpper ∧ v.getLsbD 2 = s.csr.rldPixel ∧
      v.extractLsb' 3 29 = 0#29) ∧
    (∃ v, exec (.csrRead 0x10#8 d) s = .next (s.withReply (.read v false)) ∧
      v.extractLsb' 0 2 = (match s.hex.state with | .idle => 0#2 | .run => 1#2 | .error => 2#2) ∧
      v.getLsbD 2 = s.hex.upper ∧ v.getLsbD 3 = false ∧ v.extractLsb' 4 4 = kind s.hex.err ∧
      v.extractLsb' 8 8 = detail s.hex.detail ∧ v.extractLsb' 16 16 = s.hex.idx) ∧
    (∃ v, exec (.csrRead 0x18#8 d) s = .next (s.withReply (.read v false)) ∧
      v.extractLsb' 0 2 = (match s.rld.state with
        | .idle => 0#2 | .run => 1#2 | .done => 2#2 | .error => 3#2) ∧
      v.getLsbD 2 = s.rld.hasPrev ∧ v.getLsbD 3 = s.rld.pix ∧ v.extractLsb' 4 4 = kind s.rld.err ∧
      v.extractLsb' 8 8 = detail s.rld.detail ∧ v.extractLsb' 16 16 = s.rld.rb)

/-- A host write stores the RW register addressed, its reserved bits dropped, and nothing else; a write to an RO
register changes nothing; both answer csr_err = 0. A write to a misaligned or unmapped address changes nothing
and answers csr_err = 1 (R301). That the writes of LUT_COUNT and LUT_CHAR are the rows LUT_ENCODE and LUT_DECODE
is the model's reading of R122 and R303 (log 7). -/
def Obligations.RegisterWritesStoreTheirFields : Prop :=
  ∀ (d : Word32) (s : State),
    exec (.csrWrite 0x04#8 d) s =
      .next { s with csr := { s.csr with rowbytes := d.extractLsb' 0 16 }, reply := some (.write false) } ∧
    exec (.csrWrite 0x08#8 d) s =
      .next { s with csr := { s.csr with total := d }, reply := some (.write false) } ∧
    exec (.csrWrite 0x0C#8 d) s =
      .next { s with csr := { s.csr with bodylen := d }, reply := some (.write false) } ∧
    exec (.lutEncode d) s =
      .next { s with csr := { s.csr with lutCount := d.extractLsb' 0 16 }, reply := some (.write false) } ∧
    exec (.lutDecode d) s =
      .next { s with csr := { s.csr with lutChar := d.extractLsb' 0 8 }, reply := some (.write false) } ∧
    (∀ a ∈ ([0x10#8, 0x14#8, 0x18#8, 0x1C#8, 0x20#8, 0x24#8, 0x28#8, 0x2C#8, 0x34#8, 0x3C#8] : List (BitVec 8)),
      exec (.csrWrite a d) s = .next { s with reply := some (.write false) }) ∧
    (∀ a : BitVec 8, (a.toNat % 4 ≠ 0 ∨ 0x40 ≤ a.toNat) →
      exec (.csrWrite a d) s = .next { s with reply := some (.write true) })

/-- Every row of a CTRL write stores bits 2:0 and answers csr_err = 0, whatever its start checks find; the other
registers and what is presented stay; the HEX unit stays where HEX_EN does not change, and the RLD stays where
both pulse bits are 0 (R302, R386). -/
def Obligations.CtrlWriteStoresItsBits : Prop :=
  ∀ (d : Word32) (s : State),
    ∀ i ∈ ([.ctrlWrite d, .hexStart d, .hexStop d, .rldStart d, .rldAbort d] : List Instr),
    ∃ t, exec i s = .next t ∧
      t = { s with csr := t.csr, hex := t.hex, rld := t.rld, reply := some (.write false) } ∧
      t.csr = { s.csr with hexEn := d.getLsbD 0, hexUpper := d.getLsbD 1, rldPixel := d.getLsbD 2 } ∧
      (d.getLsbD 0 = s.csr.hexEn → t.hex = s.hex) ∧
      (d.getLsbD 8 = false → d.getLsbD 9 = false → t.rld = s.rld)

/-! The alphabet. -/

/-- LUT_ENCODE then a read of LUT_TOKEN: for a count outside 1..400 the token is empty with OVF; up to 19 it is one
low letter; a multiple of 20 one high letter; else a high and a low letter. The lookup touches neither unit
(R48, R154, R303). -/
def Obligations.LutEncodeAnswersTheToken : Prop :=
  ∀ (d x : Word32) (s : State),
    let c := d.toNat % 65536
    ∃ t u v, exec (.lutEncode d) s = .next t ∧ exec (.csrRead 0x34#8 x) t = .next u ∧
      u.reply = some (.read v false) ∧ u.hex = s.hex ∧ u.rld = s.rld ∧
      v.toNat =
        if c = 0 ∨ 400 < c then 2 ^ 31
        else if c ≤ 19 then 2 ^ 16 + (0x46 + c)
        else if c % 20 = 0 then 2 ^ 16 + (0x66 + c / 20)
        else 2 * 2 ^ 16 + (0x46 + c % 20) * 2 ^ 8 + (0x66 + c / 20)

/-- LUT_DECODE then a read of LUT_VALUE: VALID and the count for `G`..`Y` and `g`..`z`, 0 for every other
character. The lookup touches neither unit (R50, R156, R303). -/
def Obligations.LutDecodeAnswersTheCount : Prop :=
  ∀ (d x : Word32) (s : State),
    let c := d.toNat % 256
    ∃ t u v, exec (.lutDecode d) s = .next t ∧ exec (.csrRead 0x3C#8 x) t = .next u ∧
      u.reply = some (.read v false) ∧ u.hex = s.hex ∧ u.rld = s.rld ∧
      v.toNat =
        if 0x47 ≤ c ∧ c ≤ 0x59 then 2 ^ 31 + (c - 0x46)
        else if 0x67 ≤ c ∧ c ≤ 0x7A then 2 ^ 31 + 20 * (c - 0x66)
        else 0

/-- On 1..400 the token's characters are multiplier characters whose counts add up to the count, the token has one
character exactly where the count is at most 20 or a multiple of 20, and two counts never share a token
(R155). -/
def Obligations.AlutTokensAddUp : Prop :=
  (∀ c : BitVec 16, 1 ≤ c.toNat → c.toNat ≤ 400 →
    ((tokenChars (alutEncode c)).map multCount).sum = c.toNat ∧
    (∀ x ∈ tokenChars (alutEncode c), (alutDecode x).isSome = true) ∧
    ((tokenChars (alutEncode c)).length = 1 ↔ c.toNat ≤ 20 ∨ c.toNat % 20 = 0) ∧
    ((tokenChars (alutEncode c)).length = 1 ∨ (tokenChars (alutEncode c)).length = 2)) ∧
  (∀ c e : BitVec 16, 1 ≤ c.toNat → c.toNat ≤ 400 → 1 ≤ e.toNat → e.toNat ≤ 400 →
    alutEncode c = alutEncode e → c = e)

/-- Two multiplier characters never carry one count, and the counts are exactly 1..19 and the multiples of 20 from
20 to 400 (R157). -/
def Obligations.AlutDecodeIsInjective : Prop :=
  (∀ x y : Byte, (alutDecode x).isSome = true → alutDecode x = alutDecode y → x = y) ∧
  (∀ n : Nat, (∃ x : Byte, alutDecode x = some n) ↔
    (1 ≤ n ∧ n ≤ 19) ∨ (20 ≤ n ∧ n ≤ 400 ∧ n % 20 = 0))

/-! Rules over every step. -/

/-- The RLD changes its unit state only as R240 lists: by reset to IDLE, by a CTRL write with the start pulse to RUN
or ERROR, by one with the abort pulse alone to IDLE, by an accepted beat from RUN to ERROR, or by an accepted
End beat from RUN to DONE. -/
def Obligations.RldStateMovesOnlyAsListed : Prop :=
  ∀ s t : State, step s = .next t → t.rld.state ≠ s.rld.state →
    ∃ ts,
      (s.schedule = .rst :: ts ∧ t.rld.state = .idle) ∨
      (∃ w ws, s.schedule = .host :: ts ∧ s.hostIn = w :: ws ∧ w.getLsbD 40 = true ∧
        w.extractLsb' 32 8 = 0x00#8 ∧
        ((w.getLsbD 8 = true ∧ (t.rld.state = .run ∨ t.rld.state = .error)) ∨
          (w.getLsbD 8 = false ∧ w.getLsbD 9 = true ∧ t.rld.state = .idle))) ∨
      (∃ w ws, s.schedule = .rldIn :: ts ∧ s.rldIn = w :: ws ∧ s.rld.state = .run ∧ s.rld.outq = [] ∧
        (t.rld.state = .error ∨ (w.getLsbD 8 = true ∧ t.rld.state = .done)))

/-- The HEX unit leaves ERROR only by reset or by a CTRL write that stops it, to IDLE (R188, R345). -/
def Obligations.HexErrorIsLeftByStopOrReset : Prop :=
  ∀ s t : State, HexInv s.csr s.hex → step s = .next t → s.hex.state = .error → t.hex.state ≠ .error →
    t.hex.state = .idle ∧
    ∃ ts,
      s.schedule = .rst :: ts ∨
      (∃ w ws, s.schedule = .host :: ts ∧ s.hostIn = w :: ws ∧ w.getLsbD 40 = true ∧
        w.extractLsb' 32 8 = 0x00#8 ∧ w.getLsbD 0 = false)

/-- The RLD's latched configuration changes only at a start or a reset, whatever is written to the registers
during a run (R94, R380). -/
def Obligations.RldConfigurationIsLatched : Prop :=
  ∀ s t : State, step s = .next t →
    (t.rld.rb ≠ s.rld.rb ∨ t.rld.height ≠ s.rld.height ∨ t.rld.pix ≠ s.rld.pix ∨
      t.rld.bodylen ≠ s.rld.bodylen) →
    ∃ ts,
      s.schedule = .rst :: ts ∨
      (∃ w ws, s.schedule = .host :: ts ∧ s.hostIn = w :: ws ∧ w.getLsbD 40 = true ∧
        w.extractLsb' 32 8 = 0x00#8 ∧ w.getLsbD 8 = true)

/-- The HEX unit's latched row length and case change only at a start or a reset (R187, R380). -/
def Obligations.HexConfigurationIsLatched : Prop :=
  ∀ s t : State, step s = .next t → (t.hex.rb ≠ s.hex.rb ∨ t.hex.upper ≠ s.hex.upper) →
    ∃ ts,
      s.schedule = .rst :: ts ∨
      (∃ w ws, s.schedule = .host :: ts ∧ s.hostIn = w :: ws ∧ w.getLsbD 40 = true ∧
        w.extractLsb' 32 8 = 0x00#8 ∧ w.getLsbD 0 = true ∧ s.csr.hexEn = false)

/-- Outside RUN a step changes nothing of the RLD but its output queue, unless it is a reset or a CTRL write with a
pulse bit; so a run that has ended, DONE or ERROR with its output taken, keeps the whole unit as it is
(R92, R249, R253). -/
def Obligations.RldOutsideRunIsStable : Prop :=
  ∀ s t : State, step s = .next t → s.rld.state ≠ .run →
    (∃ ts,
      s.schedule = .rst :: ts ∨
      (∃ w ws, s.schedule = .host :: ts ∧ s.hostIn = w :: ws ∧ w.getLsbD 40 = true ∧
        w.extractLsb' 32 8 = 0x00#8 ∧ (w.getLsbD 8 = true ∨ w.getLsbD 9 = true))) ∨
    (t.rld = { s.rld with outq := t.rld.outq } ∧ (rldRunEnded s = true → t.rld = s.rld))

/-- Each output queue changes only by an accepted beat of its unit, from empty, by its consumer taking the oldest
beat, or by reset, to empty: starts, aborts and stops keep it (R91, R93, R383). An accepted beat was presented
first at its port and is presented no more. -/
def Obligations.OutputQueuesAreFirstInFirstOut : Prop :=
  ∀ s t : State, step s = .next t →
    (t.rld.outq = s.rld.outq ∨
      (∃ w ws ts, s.schedule = .rldIn :: ts ∧ s.rldIn = w :: ws ∧ t.rldIn = ws ∧
        s.rld.state = .run ∧ s.rld.outq = []) ∨
      (∃ ts, s.schedule = .rldOut :: ts ∧ t.rld.outq = s.rld.outq.tail) ∨
      (∃ ts, s.schedule = .rst :: ts ∧ t.rld.outq = [])) ∧
    (t.hex.outq = s.hex.outq ∨
      (∃ w ws ts, s.schedule = .hexIn :: ts ∧ s.hexIn = w :: ws ∧ t.hexIn = ws ∧
        s.hex.state = .run ∧ s.hex.outq = []) ∨
      (∃ ts, s.schedule = .hexOut :: ts ∧ t.hex.outq = s.hex.outq.tail) ∨
      (∃ ts, s.schedule = .rst :: ts ∧ t.hex.outq = []))

/-- No step but a reset changes an element of a row buffer from 2R on, R being the latched row length. The spec
lets these elements have any value at any time (U1); that they stay is the model's choice (log 19). -/
def Obligations.ElementsBeyondTheRowStay : Prop :=
  ∀ s t : State, step s = .next t → (∀ ts, s.schedule ≠ .rst :: ts) →
    ∀ i, 2 * s.rld.rb.toNat ≤ i → t.rld.curAt i = s.rld.curAt i ∧ t.rld.prevAt i = s.rld.prevAt i

/-- The units do not read or write each other: a beat at one leaves the other unit, the registers and the host's
answer as they were, and its effect on its own unit is the same in any two states that agree on that unit
(R180, R360). -/
def Obligations.UnitsDoNotInterfere : Prop :=
  (∀ (w : BitVec 9) (s₁ s₂ t₁ t₂ : State), s₁.rld = s₂.rld →
    exec (decode (.rldBeat w)) s₁ = .next t₁ → exec (decode (.rldBeat w)) s₂ = .next t₂ →
    t₁.rld = t₂.rld ∧ t₁ = { s₁ with rld := t₁.rld }) ∧
  (∀ (w : BitVec 9) (s₁ s₂ t₁ t₂ : State), s₁.hex = s₂.hex →
    exec (decode (.hexBeat w)) s₁ = .next t₁ → exec (decode (.hexBeat w)) s₂ = .next t₂ →
    t₁.hex = t₂.hex ∧ t₁ = { s₁ with hex := t₁.hex })

/-! The reference compressor and the round trip. -/

/-- A row of `0` folds to `,` and a row of `f` to `!` (R214, R220). The first row is written folded; a later row is
`:` exactly where it folds as the row before it, else folded, and nothing stands between rows (R216, R217). So a
row that repeats the row before it adds exactly `:`, wherever it stands and whatever follows, and of k+1 equal
rows each after the first is `:`. On rows outside the domain of R211 (an empty row, rows of odd or unequal
lengths) what it says is the model's choice (log 21). -/
def Obligations.RefCompressFoldsAsStated : Prop :=
  (∀ n : Nat, foldRow (List.replicate (n + 1) 0x30#8) = [0x2C#8] ∧
    foldRow (List.replicate (n + 1) 0x66#8) = [0x21#8]) ∧
  (∀ row : List Byte, refCompress [row] = foldRow row) ∧
  (∀ (before : List (List Byte)) (row next : List Byte),
    refCompress (before ++ [row, next]) =
      refCompress (before ++ [row]) ++ (if foldRow next = foldRow row then [0x3A#8] else foldRow next)) ∧
  (∀ (before after : List (List Byte)) (row : List Byte),
    ∃ rest, refCompress (before ++ row :: after) = refCompress (before ++ [row]) ++ rest ∧
      refCompress (before ++ row :: row :: after) = refCompress (before ++ [row]) ++ 0x3A#8 :: rest) ∧
  (∀ (before : List (List Byte)) (row : List Byte) (k : Nat),
    refCompress (before ++ List.replicate (k + 1) row) =
      refCompress (before ++ [row]) ++ List.replicate k 0x3A#8)

/-- The round trip of the uncompressed body: the newline-joined hex rows of any bitmap, in either case, sent to a
started RLD with the End beat, end in DONE with ERR = 0, and the output is the rows' bytes with ROW_END on each
row's last byte (R219, its second body). -/
def Obligations.JoinedBodyDecodesToItsRows : Prop :=
  ∀ (upper : Bool) (rows : List (List Byte)) (d : Word32) (s : State),
    rows ≠ [] → (∀ row ∈ rows, row.length = s.csr.rowbytes.toNat) →
    1 ≤ s.csr.rowbytes.toNat → s.csr.rowbytes.toNat ≤ Config.rbMax →
    s.csr.total.toNat = s.csr.rowbytes.toNat * rows.length → s.csr.bodylen = 0 →
    d.getLsbD 8 = true → d.getLsbD 2 = false → s.rld.outq = [] →
    ∃ t u out, exec (.rldStart d) s = .next t ∧
      feedRld (bodyBeats (joinRows (rows.map (hexRow upper)))) t = (u, out) ∧
      u.rld.state = .done ∧ u.rld.err = .none ∧ out = rows.flatMap rowBeats

/-- The round trip of the compressed body: RefCompress of the hex rows of any bitmap, in either case, sent to a
started RLD with the End beat, ends in DONE with ERR = 0, and the output is the rows' bytes with ROW_END on each
row's last byte (R219, its first body). -/
def Obligations.CompressedBodyDecodesToItsRows : Prop :=
  ∀ (upper : Bool) (rows : List (List Byte)) (d : Word32) (s : State),
    rows ≠ [] → (∀ row ∈ rows, row.length = s.csr.rowbytes.toNat) →
    1 ≤ s.csr.rowbytes.toNat → s.csr.rowbytes.toNat ≤ Config.rbMax →
    s.csr.total.toNat = s.csr.rowbytes.toNat * rows.length → s.csr.bodylen = 0 →
    d.getLsbD 8 = true → d.getLsbD 2 = false → s.rld.outq = [] →
    ∃ t u out, exec (.rldStart d) s = .next t ∧
      feedRld (bodyBeats (refCompress (rows.map (hexRow upper)))) t = (u, out) ∧
      u.rld.state = .done ∧ u.rld.err = .none ∧ out = rows.flatMap rowBeats
end

