-- ==== Sys2Proof/Laws/State.lean ====
section
/-! SUPPORT. One lemma per field per update, each true by rfl, so that no proof unfolds a record update. -/

namespace Sys2Proof.Machine

@[simp] theorem State.withRld_csr (s : State) (u : RldUnit) : (s.withRld u).csr = s.csr := rfl
@[simp] theorem State.withRld_hex (s : State) (u : RldUnit) : (s.withRld u).hex = s.hex := rfl
@[simp] theorem State.withRld_rld (s : State) (u : RldUnit) : (s.withRld u).rld = u := rfl
@[simp] theorem State.withRld_reply (s : State) (u : RldUnit) : (s.withRld u).reply = s.reply := rfl
@[simp] theorem State.withRld_hostIn (s : State) (u : RldUnit) : (s.withRld u).hostIn = s.hostIn := rfl
@[simp] theorem State.withRld_hexIn (s : State) (u : RldUnit) : (s.withRld u).hexIn = s.hexIn := rfl
@[simp] theorem State.withRld_rldIn (s : State) (u : RldUnit) : (s.withRld u).rldIn = s.rldIn := rfl
@[simp] theorem State.withRld_schedule (s : State) (u : RldUnit) : (s.withRld u).schedule = s.schedule := rfl

@[simp] theorem State.withHex_csr (s : State) (u : HexUnit) : (s.withHex u).csr = s.csr := rfl
@[simp] theorem State.withHex_hex (s : State) (u : HexUnit) : (s.withHex u).hex = u := rfl
@[simp] theorem State.withHex_rld (s : State) (u : HexUnit) : (s.withHex u).rld = s.rld := rfl
@[simp] theorem State.withHex_reply (s : State) (u : HexUnit) : (s.withHex u).reply = s.reply := rfl
@[simp] theorem State.withHex_hostIn (s : State) (u : HexUnit) : (s.withHex u).hostIn = s.hostIn := rfl
@[simp] theorem State.withHex_hexIn (s : State) (u : HexUnit) : (s.withHex u).hexIn = s.hexIn := rfl
@[simp] theorem State.withHex_rldIn (s : State) (u : HexUnit) : (s.withHex u).rldIn = s.rldIn := rfl
@[simp] theorem State.withHex_schedule (s : State) (u : HexUnit) : (s.withHex u).schedule = s.schedule := rfl

@[simp] theorem State.withCsr_csr (s : State) (c : Csr) : (s.withCsr c).csr = c := rfl
@[simp] theorem State.withCsr_hex (s : State) (c : Csr) : (s.withCsr c).hex = s.hex := rfl
@[simp] theorem State.withCsr_rld (s : State) (c : Csr) : (s.withCsr c).rld = s.rld := rfl
@[simp] theorem State.withCsr_reply (s : State) (c : Csr) : (s.withCsr c).reply = s.reply := rfl
@[simp] theorem State.withCsr_hostIn (s : State) (c : Csr) : (s.withCsr c).hostIn = s.hostIn := rfl
@[simp] theorem State.withCsr_hexIn (s : State) (c : Csr) : (s.withCsr c).hexIn = s.hexIn := rfl
@[simp] theorem State.withCsr_rldIn (s : State) (c : Csr) : (s.withCsr c).rldIn = s.rldIn := rfl
@[simp] theorem State.withCsr_schedule (s : State) (c : Csr) : (s.withCsr c).schedule = s.schedule := rfl

@[simp] theorem State.withReply_csr (s : State) (r : Reply) : (s.withReply r).csr = s.csr := rfl
@[simp] theorem State.withReply_hex (s : State) (r : Reply) : (s.withReply r).hex = s.hex := rfl
@[simp] theorem State.withReply_rld (s : State) (r : Reply) : (s.withReply r).rld = s.rld := rfl
@[simp] theorem State.withReply_reply (s : State) (r : Reply) : (s.withReply r).reply = some r := rfl
@[simp] theorem State.withReply_hostIn (s : State) (r : Reply) : (s.withReply r).hostIn = s.hostIn := rfl
@[simp] theorem State.withReply_hexIn (s : State) (r : Reply) : (s.withReply r).hexIn = s.hexIn := rfl
@[simp] theorem State.withReply_rldIn (s : State) (r : Reply) : (s.withReply r).rldIn = s.rldIn := rfl
@[simp] theorem State.withReply_schedule (s : State) (r : Reply) : (s.withReply r).schedule = s.schedule := rfl

@[simp] theorem RldUnit.raise_state (u : RldUnit) (d : Detail) : (u.raise d).state = .error := rfl
@[simp] theorem RldUnit.raise_rb (u : RldUnit) (d : Detail) : (u.raise d).rb = u.rb := rfl
@[simp] theorem RldUnit.raise_height (u : RldUnit) (d : Detail) : (u.raise d).height = u.height := rfl
@[simp] theorem RldUnit.raise_rows (u : RldUnit) (d : Detail) : (u.raise d).rows = u.rows := rfl
@[simp] theorem RldUnit.raise_cursor (u : RldUnit) (d : Detail) : (u.raise d).cursor = u.cursor := rfl
@[simp] theorem RldUnit.raise_counter (u : RldUnit) (d : Detail) : (u.raise d).counter = u.counter := rfl
@[simp] theorem RldUnit.raise_hasPrev (u : RldUnit) (d : Detail) : (u.raise d).hasPrev = u.hasPrev := rfl
@[simp] theorem RldUnit.raise_pix (u : RldUnit) (d : Detail) : (u.raise d).pix = u.pix := rfl
@[simp] theorem RldUnit.raise_bodylen (u : RldUnit) (d : Detail) : (u.raise d).bodylen = u.bodylen := rfl
@[simp] theorem RldUnit.raise_bodycnt (u : RldUnit) (d : Detail) : (u.raise d).bodycnt = u.bodycnt := rfl
@[simp] theorem RldUnit.raise_err (u : RldUnit) (d : Detail) : (u.raise d).err = d.kind := rfl
@[simp] theorem RldUnit.raise_detail (u : RldUnit) (d : Detail) : (u.raise d).detail = d := rfl
@[simp] theorem RldUnit.raise_cur (u : RldUnit) (d : Detail) : (u.raise d).cur = u.cur := rfl
@[simp] theorem RldUnit.raise_prev (u : RldUnit) (d : Detail) : (u.raise d).prev = u.prev := rfl
@[simp] theorem RldUnit.raise_outq (u : RldUnit) (d : Detail) : (u.raise d).outq = u.outq := rfl
@[simp] theorem RldUnit.raise_epoch (u : RldUnit) (d : Detail) : (u.raise d).epoch = u.epoch := rfl

@[simp] theorem HexUnit.raise_state (u : HexUnit) (d : Detail) : (u.raise d).state = .error := rfl
@[simp] theorem HexUnit.raise_rb (u : HexUnit) (d : Detail) : (u.raise d).rb = u.rb := rfl
@[simp] theorem HexUnit.raise_upper (u : HexUnit) (d : Detail) : (u.raise d).upper = u.upper := rfl
@[simp] theorem HexUnit.raise_idx (u : HexUnit) (d : Detail) : (u.raise d).idx = u.idx := rfl
@[simp] theorem HexUnit.raise_rows (u : HexUnit) (d : Detail) : (u.raise d).rows = u.rows := rfl
@[simp] theorem HexUnit.raise_err (u : HexUnit) (d : Detail) : (u.raise d).err = d.kind := rfl
@[simp] theorem HexUnit.raise_detail (u : HexUnit) (d : Detail) : (u.raise d).detail = d := rfl
@[simp] theorem HexUnit.raise_outq (u : HexUnit) (d : Detail) : (u.raise d).outq = u.outq := rfl

@[simp] theorem RldUnit.countChar_state (u : RldUnit) : (u.countChar).state = u.state := rfl
@[simp] theorem RldUnit.countChar_rb (u : RldUnit) : (u.countChar).rb = u.rb := rfl
@[simp] theorem RldUnit.countChar_height (u : RldUnit) : (u.countChar).height = u.height := rfl
@[simp] theorem RldUnit.countChar_rows (u : RldUnit) : (u.countChar).rows = u.rows := rfl
@[simp] theorem RldUnit.countChar_cursor (u : RldUnit) : (u.countChar).cursor = u.cursor := rfl
@[simp] theorem RldUnit.countChar_counter (u : RldUnit) : (u.countChar).counter = u.counter := rfl
@[simp] theorem RldUnit.countChar_hasPrev (u : RldUnit) : (u.countChar).hasPrev = u.hasPrev := rfl
@[simp] theorem RldUnit.countChar_pix (u : RldUnit) : (u.countChar).pix = u.pix := rfl
@[simp] theorem RldUnit.countChar_bodylen (u : RldUnit) : (u.countChar).bodylen = u.bodylen := rfl
@[simp] theorem RldUnit.countChar_bodycnt (u : RldUnit) : (u.countChar).bodycnt = u.bodycnt + 1 := rfl
@[simp] theorem RldUnit.countChar_err (u : RldUnit) : (u.countChar).err = u.err := rfl
@[simp] theorem RldUnit.countChar_detail (u : RldUnit) : (u.countChar).detail = u.detail := rfl
@[simp] theorem RldUnit.countChar_cur (u : RldUnit) : (u.countChar).cur = u.cur := rfl
@[simp] theorem RldUnit.countChar_prev (u : RldUnit) : (u.countChar).prev = u.prev := rfl
@[simp] theorem RldUnit.countChar_outq (u : RldUnit) : (u.countChar).outq = u.outq := rfl
@[simp] theorem RldUnit.countChar_epoch (u : RldUnit) : (u.countChar).epoch = u.epoch := rfl

@[simp] theorem RldUnit.fillCur_state (u : RldUnit) (p k : Nat) (n : Nibble) : (u.fillCur p k n).state = u.state := rfl
@[simp] theorem RldUnit.fillCur_rb (u : RldUnit) (p k : Nat) (n : Nibble) : (u.fillCur p k n).rb = u.rb := rfl
@[simp] theorem RldUnit.fillCur_height (u : RldUnit) (p k : Nat) (n : Nibble) : (u.fillCur p k n).height = u.height := rfl
@[simp] theorem RldUnit.fillCur_rows (u : RldUnit) (p k : Nat) (n : Nibble) : (u.fillCur p k n).rows = u.rows := rfl
@[simp] theorem RldUnit.fillCur_cursor (u : RldUnit) (p k : Nat) (n : Nibble) : (u.fillCur p k n).cursor = u.cursor := rfl
@[simp] theorem RldUnit.fillCur_counter (u : RldUnit) (p k : Nat) (n : Nibble) : (u.fillCur p k n).counter = u.counter := rfl
@[simp] theorem RldUnit.fillCur_hasPrev (u : RldUnit) (p k : Nat) (n : Nibble) : (u.fillCur p k n).hasPrev = u.hasPrev := rfl
@[simp] theorem RldUnit.fillCur_pix (u : RldUnit) (p k : Nat) (n : Nibble) : (u.fillCur p k n).pix = u.pix := rfl
@[simp] theorem RldUnit.fillCur_bodylen (u : RldUnit) (p k : Nat) (n : Nibble) : (u.fillCur p k n).bodylen = u.bodylen := rfl
@[simp] theorem RldUnit.fillCur_bodycnt (u : RldUnit) (p k : Nat) (n : Nibble) : (u.fillCur p k n).bodycnt = u.bodycnt := rfl
@[simp] theorem RldUnit.fillCur_err (u : RldUnit) (p k : Nat) (n : Nibble) : (u.fillCur p k n).err = u.err := rfl
@[simp] theorem RldUnit.fillCur_detail (u : RldUnit) (p k : Nat) (n : Nibble) : (u.fillCur p k n).detail = u.detail := rfl
@[simp] theorem RldUnit.fillCur_cur (u : RldUnit) (p k : Nat) (n : Nibble) : (u.fillCur p k n).cur = bufFill (Config.curAtReset u.epoch) u.cur p k n := rfl
@[simp] theorem RldUnit.fillCur_prev (u : RldUnit) (p k : Nat) (n : Nibble) : (u.fillCur p k n).prev = u.prev := rfl
@[simp] theorem RldUnit.fillCur_outq (u : RldUnit) (p k : Nat) (n : Nibble) : (u.fillCur p k n).outq = u.outq := rfl
@[simp] theorem RldUnit.fillCur_epoch (u : RldUnit) (p k : Nat) (n : Nibble) : (u.fillCur p k n).epoch = u.epoch := rfl

@[simp] theorem RldUnit.copyPrev_state (u : RldUnit) : (u.copyPrev).state = u.state := rfl
@[simp] theorem RldUnit.copyPrev_rb (u : RldUnit) : (u.copyPrev).rb = u.rb := rfl
@[simp] theorem RldUnit.copyPrev_height (u : RldUnit) : (u.copyPrev).height = u.height := rfl
@[simp] theorem RldUnit.copyPrev_rows (u : RldUnit) : (u.copyPrev).rows = u.rows := rfl
@[simp] theorem RldUnit.copyPrev_cursor (u : RldUnit) : (u.copyPrev).cursor = u.cursor := rfl
@[simp] theorem RldUnit.copyPrev_counter (u : RldUnit) : (u.copyPrev).counter = u.counter := rfl
@[simp] theorem RldUnit.copyPrev_hasPrev (u : RldUnit) : (u.copyPrev).hasPrev = u.hasPrev := rfl
@[simp] theorem RldUnit.copyPrev_pix (u : RldUnit) : (u.copyPrev).pix = u.pix := rfl
@[simp] theorem RldUnit.copyPrev_bodylen (u : RldUnit) : (u.copyPrev).bodylen = u.bodylen := rfl
@[simp] theorem RldUnit.copyPrev_bodycnt (u : RldUnit) : (u.copyPrev).bodycnt = u.bodycnt := rfl
@[simp] theorem RldUnit.copyPrev_err (u : RldUnit) : (u.copyPrev).err = u.err := rfl
@[simp] theorem RldUnit.copyPrev_detail (u : RldUnit) : (u.copyPrev).detail = u.detail := rfl
@[simp] theorem RldUnit.copyPrev_cur (u : RldUnit) : (u.copyPrev).cur = bufCopy (bufTake (Config.prevAtReset u.epoch) u.prev u.rowLen) u.cur := rfl
@[simp] theorem RldUnit.copyPrev_prev (u : RldUnit) : (u.copyPrev).prev = u.prev := rfl
@[simp] theorem RldUnit.copyPrev_outq (u : RldUnit) : (u.copyPrev).outq = u.outq := rfl
@[simp] theorem RldUnit.copyPrev_epoch (u : RldUnit) : (u.copyPrev).epoch = u.epoch := rfl

@[simp] theorem RldUnit.completeRow_state (u : RldUnit) : (u.completeRow).state = u.state := rfl
@[simp] theorem RldUnit.completeRow_rb (u : RldUnit) : (u.completeRow).rb = u.rb := rfl
@[simp] theorem RldUnit.completeRow_height (u : RldUnit) : (u.completeRow).height = u.height := rfl
@[simp] theorem RldUnit.completeRow_rows (u : RldUnit) : (u.completeRow).rows = u.rows + 1 := rfl
@[simp] theorem RldUnit.completeRow_cursor (u : RldUnit) : (u.completeRow).cursor = 0 := rfl
@[simp] theorem RldUnit.completeRow_counter (u : RldUnit) : (u.completeRow).counter = u.counter := rfl
@[simp] theorem RldUnit.completeRow_hasPrev (u : RldUnit) : (u.completeRow).hasPrev = true := rfl
@[simp] theorem RldUnit.completeRow_pix (u : RldUnit) : (u.completeRow).pix = u.pix := rfl
@[simp] theorem RldUnit.completeRow_bodylen (u : RldUnit) : (u.completeRow).bodylen = u.bodylen := rfl
@[simp] theorem RldUnit.completeRow_bodycnt (u : RldUnit) : (u.completeRow).bodycnt = u.bodycnt := rfl
@[simp] theorem RldUnit.completeRow_err (u : RldUnit) : (u.completeRow).err = u.err := rfl
@[simp] theorem RldUnit.completeRow_detail (u : RldUnit) : (u.completeRow).detail = u.detail := rfl
@[simp] theorem RldUnit.completeRow_cur (u : RldUnit) : (u.completeRow).cur = u.cur := rfl
@[simp] theorem RldUnit.completeRow_prev (u : RldUnit) : (u.completeRow).prev = bufCopy (bufTake (Config.curAtReset u.epoch) u.cur u.rowLen) u.prev := rfl
@[simp] theorem RldUnit.completeRow_outq (u : RldUnit) : (u.completeRow).outq = u.outq ++ u.rowOutput := rfl
@[simp] theorem RldUnit.completeRow_epoch (u : RldUnit) : (u.completeRow).epoch = u.epoch := rfl

@[simp] theorem RldUnit.latch_state (u : RldUnit) (c : Csr) : (u.latch c).state = u.state := rfl
@[simp] theorem RldUnit.latch_rb (u : RldUnit) (c : Csr) : (u.latch c).rb = c.rowbytes := rfl
@[simp] theorem RldUnit.latch_height (u : RldUnit) (c : Csr) : (u.latch c).height = 0 := rfl
@[simp] theorem RldUnit.latch_rows (u : RldUnit) (c : Csr) : (u.latch c).rows = 0 := rfl
@[simp] theorem RldUnit.latch_cursor (u : RldUnit) (c : Csr) : (u.latch c).cursor = 0 := rfl
@[simp] theorem RldUnit.latch_counter (u : RldUnit) (c : Csr) : (u.latch c).counter = 0 := rfl
@[simp] theorem RldUnit.latch_hasPrev (u : RldUnit) (c : Csr) : (u.latch c).hasPrev = false := rfl
@[simp] theorem RldUnit.latch_pix (u : RldUnit) (c : Csr) : (u.latch c).pix = c.rldPixel := rfl
@[simp] theorem RldUnit.latch_bodylen (u : RldUnit) (c : Csr) : (u.latch c).bodylen = c.bodylen := rfl
@[simp] theorem RldUnit.latch_bodycnt (u : RldUnit) (c : Csr) : (u.latch c).bodycnt = 0 := rfl
@[simp] theorem RldUnit.latch_err (u : RldUnit) (c : Csr) : (u.latch c).err = .none := rfl
@[simp] theorem RldUnit.latch_detail (u : RldUnit) (c : Csr) : (u.latch c).detail = .none := rfl
@[simp] theorem RldUnit.latch_cur (u : RldUnit) (c : Csr) : (u.latch c).cur = u.cur := rfl
@[simp] theorem RldUnit.latch_prev (u : RldUnit) (c : Csr) : (u.latch c).prev = u.prev := rfl
@[simp] theorem RldUnit.latch_outq (u : RldUnit) (c : Csr) : (u.latch c).outq = u.outq := rfl
@[simp] theorem RldUnit.latch_epoch (u : RldUnit) (c : Csr) : (u.latch c).epoch = u.epoch := rfl

@[simp] theorem rldAbort_state (u : RldUnit) : (rldAbort u).state = .idle := rfl
@[simp] theorem rldAbort_rb (u : RldUnit) : (rldAbort u).rb = u.rb := rfl
@[simp] theorem rldAbort_height (u : RldUnit) : (rldAbort u).height = u.height := rfl
@[simp] theorem rldAbort_rows (u : RldUnit) : (rldAbort u).rows = u.rows := rfl
@[simp] theorem rldAbort_cursor (u : RldUnit) : (rldAbort u).cursor = u.cursor := rfl
@[simp] theorem rldAbort_counter (u : RldUnit) : (rldAbort u).counter = u.counter := rfl
@[simp] theorem rldAbort_hasPrev (u : RldUnit) : (rldAbort u).hasPrev = u.hasPrev := rfl
@[simp] theorem rldAbort_pix (u : RldUnit) : (rldAbort u).pix = u.pix := rfl
@[simp] theorem rldAbort_bodylen (u : RldUnit) : (rldAbort u).bodylen = u.bodylen := rfl
@[simp] theorem rldAbort_bodycnt (u : RldUnit) : (rldAbort u).bodycnt = u.bodycnt := rfl
@[simp] theorem rldAbort_err (u : RldUnit) : (rldAbort u).err = u.err := rfl
@[simp] theorem rldAbort_detail (u : RldUnit) : (rldAbort u).detail = u.detail := rfl
@[simp] theorem rldAbort_cur (u : RldUnit) : (rldAbort u).cur = u.cur := rfl
@[simp] theorem rldAbort_prev (u : RldUnit) : (rldAbort u).prev = u.prev := rfl
@[simp] theorem rldAbort_outq (u : RldUnit) : (rldAbort u).outq = u.outq := rfl
@[simp] theorem rldAbort_epoch (u : RldUnit) : (rldAbort u).epoch = u.epoch := rfl

@[simp] theorem hexStop_state (u : HexUnit) : (hexStop u).state = .idle := rfl
@[simp] theorem hexStop_rb (u : HexUnit) : (hexStop u).rb = u.rb := rfl
@[simp] theorem hexStop_upper (u : HexUnit) : (hexStop u).upper = u.upper := rfl
@[simp] theorem hexStop_idx (u : HexUnit) : (hexStop u).idx = 0 := rfl
@[simp] theorem hexStop_rows (u : HexUnit) : (hexStop u).rows = u.rows := rfl
@[simp] theorem hexStop_err (u : HexUnit) : (hexStop u).err = u.err := rfl
@[simp] theorem hexStop_detail (u : HexUnit) : (hexStop u).detail = u.detail := rfl
@[simp] theorem hexStop_outq (u : HexUnit) : (hexStop u).outq = u.outq := rfl

@[simp] theorem takeRldOut_csr (s : State) : (takeRldOut s).csr = s.csr := rfl
@[simp] theorem takeRldOut_hex (s : State) : (takeRldOut s).hex = s.hex := rfl
@[simp] theorem takeRldOut_rld (s : State) : (takeRldOut s).rld = { s.rld with outq := s.rld.outq.tail } := rfl
@[simp] theorem takeRldOut_reply (s : State) : (takeRldOut s).reply = s.reply := rfl
@[simp] theorem takeRldOut_hostIn (s : State) : (takeRldOut s).hostIn = s.hostIn := rfl
@[simp] theorem takeRldOut_hexIn (s : State) : (takeRldOut s).hexIn = s.hexIn := rfl
@[simp] theorem takeRldOut_rldIn (s : State) : (takeRldOut s).rldIn = s.rldIn := rfl
@[simp] theorem takeRldOut_schedule (s : State) : (takeRldOut s).schedule = s.schedule := rfl

@[simp] theorem takeHexOut_csr (s : State) : (takeHexOut s).csr = s.csr := rfl
@[simp] theorem takeHexOut_hex (s : State) : (takeHexOut s).hex = { s.hex with outq := s.hex.outq.tail } := rfl
@[simp] theorem takeHexOut_rld (s : State) : (takeHexOut s).rld = s.rld := rfl
@[simp] theorem takeHexOut_reply (s : State) : (takeHexOut s).reply = s.reply := rfl
@[simp] theorem takeHexOut_hostIn (s : State) : (takeHexOut s).hostIn = s.hostIn := rfl
@[simp] theorem takeHexOut_hexIn (s : State) : (takeHexOut s).hexIn = s.hexIn := rfl
@[simp] theorem takeHexOut_rldIn (s : State) : (takeHexOut s).rldIn = s.rldIn := rfl
@[simp] theorem takeHexOut_schedule (s : State) : (takeHexOut s).schedule = s.schedule := rfl

@[simp] theorem resetBlock_csr (s : State) : (resetBlock s).csr = Csr.reset := rfl
@[simp] theorem resetBlock_hex (s : State) : (resetBlock s).hex = HexUnit.reset := rfl
@[simp] theorem resetBlock_rld (s : State) : (resetBlock s).rld = RldUnit.reset (s.rld.epoch + 1) := rfl
@[simp] theorem resetBlock_reply (s : State) : (resetBlock s).reply = none := rfl
@[simp] theorem resetBlock_hostIn (s : State) : (resetBlock s).hostIn = s.hostIn := rfl
@[simp] theorem resetBlock_hexIn (s : State) : (resetBlock s).hexIn = s.hexIn := rfl
@[simp] theorem resetBlock_rldIn (s : State) : (resetBlock s).rldIn = s.rldIn := rfl
@[simp] theorem resetBlock_schedule (s : State) : (resetBlock s).schedule = s.schedule := rfl

@[simp] theorem csrRead_csr (a : BitVec 8) (s : State) : (csrRead a s).csr = s.csr := rfl
@[simp] theorem csrRead_hex (a : BitVec 8) (s : State) : (csrRead a s).hex = s.hex := rfl
@[simp] theorem csrRead_rld (a : BitVec 8) (s : State) : (csrRead a s).rld = s.rld := rfl
@[simp] theorem csrRead_reply (a : BitVec 8) (s : State) : (csrRead a s).reply = some (if busError a then .read 0 true else .read (csrView a s) false) := rfl
@[simp] theorem csrRead_hostIn (a : BitVec 8) (s : State) : (csrRead a s).hostIn = s.hostIn := rfl
@[simp] theorem csrRead_hexIn (a : BitVec 8) (s : State) : (csrRead a s).hexIn = s.hexIn := rfl
@[simp] theorem csrRead_rldIn (a : BitVec 8) (s : State) : (csrRead a s).rldIn = s.rldIn := rfl
@[simp] theorem csrRead_schedule (a : BitVec 8) (s : State) : (csrRead a s).schedule = s.schedule := rfl

end Sys2Proof.Machine
end

