-- ==== Sys2Proof/Laws/Ops.lean ====
section
/-! SUPPORT. What each shared operation of Machine/Ops.lean can do, said once. -/

namespace Sys2Proof.Machine

/-! Row buffers (R53). -/

@[simp] theorem bufTake_length (free : Nat → Nibble) (b : List Nibble) (m : Nat) :
    (bufTake free b m).length = m := by simp [bufTake]

/-- Taking a prefix and reading it back is reading the buffer. -/
theorem bufTake_getElem? (free : Nat → Nibble) (b : List Nibble) (m i : Nat) :
    (bufTake free b m)[i]? = if i < m then some (bufRead free b i) else none := by
  by_cases h : i < m <;> simp [bufTake, h]

/-- A fill writes its elements and no other. -/
theorem bufRead_bufFill (free : Nat → Nibble) (b : List Nibble) (p k : Nat) (n : Nibble) (i : Nat) :
    bufRead free (bufFill free b p k n) i = if p ≤ i ∧ i < p + k then n else bufRead free b i := by
  unfold bufFill
  rw [bufRead, List.append_assoc, List.getElem?_append]
  by_cases hp : i < p
  · rw [if_pos (by simpa using hp), bufTake_getElem?, if_pos hp, if_neg (by omega)]
    rfl
  · rw [if_neg (by simpa using hp), List.getElem?_append]
    by_cases hk : i < p + k
    · have : i - p < k := by omega
      simp [this, hk, Nat.le_of_not_lt hp]
    · have h1 : ¬ i - p < k := by omega
      have h2 : p + k + (i - p - k) = i := by omega
      simp [h1, h2, hk, bufRead]

theorem bufFill_length (free : Nat → Nibble) (b : List Nibble) (p k : Nat) (n : Nibble) :
    (bufFill free b p k n).length = max (p + k) b.length := by
  simp [bufFill]; omega

/-- A copy writes the elements of the list and no other. -/
theorem bufRead_bufCopy (free : Nat → Nibble) (ns b : List Nibble) (i : Nat) :
    bufRead free (bufCopy ns b) i = if h : i < ns.length then ns[i] else bufRead free b i := by
  unfold bufCopy bufRead
  rw [List.getElem?_append]
  by_cases h : i < ns.length
  · simp [h]
  · have : ns.length + (i - ns.length) = i := by omega
    simp [h, this]

theorem bufCopy_length (ns b : List Nibble) : (bufCopy ns b).length = max ns.length b.length := by
  simp [bufCopy]; omega

/-! Lengths and elements through the updates that leave them alone. -/

@[simp] theorem RldUnit.raise_rowLen (u : RldUnit) (d : Detail) : (u.raise d).rowLen = u.rowLen := rfl
@[simp] theorem RldUnit.countChar_rowLen (u : RldUnit) : u.countChar.rowLen = u.rowLen := rfl
@[simp] theorem RldUnit.fillCur_rowLen (u : RldUnit) (p k : Nat) (n : Nibble) :
    (u.fillCur p k n).rowLen = u.rowLen := rfl
@[simp] theorem RldUnit.copyPrev_rowLen (u : RldUnit) : u.copyPrev.rowLen = u.rowLen := rfl
@[simp] theorem RldUnit.countChar_curAt (u : RldUnit) (i : Nat) : u.countChar.curAt i = u.curAt i := rfl
@[simp] theorem RldUnit.countChar_prevAt (u : RldUnit) (i : Nat) : u.countChar.prevAt i = u.prevAt i := rfl
@[simp] theorem RldUnit.fillCur_prevAt (u : RldUnit) (p k : Nat) (n : Nibble) (i : Nat) :
    (u.fillCur p k n).prevAt i = u.prevAt i := rfl
@[simp] theorem RldUnit.copyPrev_prevAt (u : RldUnit) (i : Nat) : u.copyPrev.prevAt i = u.prevAt i := rfl
@[simp] theorem RldUnit.completeRow_curAt (u : RldUnit) (i : Nat) : u.completeRow.curAt i = u.curAt i := rfl

/-- `rld.cur[p .. p+k-1] <- n`, element by element. -/
theorem RldUnit.fillCur_curAt (u : RldUnit) (p k : Nat) (n : Nibble) (i : Nat) :
    (u.fillCur p k n).curAt i = if p ≤ i ∧ i < p + k then n else u.curAt i :=
  bufRead_bufFill _ _ _ _ _ _

/-- `rld.cur[0 .. 2R-1] <- rld.prev[0 .. 2R-1]`, element by element. -/
theorem RldUnit.copyPrev_curAt (u : RldUnit) (i : Nat) :
    u.copyPrev.curAt i = if i < u.rowLen then u.prevAt i else u.curAt i := by
  have h := bufRead_bufCopy (Config.curAtReset u.epoch)
    (bufTake (Config.prevAtReset u.epoch) u.prev u.rowLen) u.cur i
  simp only [bufTake_length] at h
  rw [show u.copyPrev.curAt i = _ from h]
  by_cases hi : i < u.rowLen
  · simp [hi, bufTake, RldUnit.prevAt]
  · simp [hi, RldUnit.curAt]

/-- A completed row is the previous row from then on (R245, R283). -/
theorem RldUnit.completeRow_prevAt (u : RldUnit) (i : Nat) :
    u.completeRow.prevAt i = if i < u.rowLen then u.curAt i else u.prevAt i := by
  have h := bufRead_bufCopy (Config.prevAtReset u.epoch)
    (bufTake (Config.curAtReset u.epoch) u.cur u.rowLen) u.prev i
  simp only [bufTake_length] at h
  rw [show u.completeRow.prevAt i = _ from h]
  by_cases hi : i < u.rowLen
  · simp [hi, bufTake, RldUnit.curAt]
  · simp [hi, RldUnit.prevAt]

/-! Output (R245, R248, R250). -/

@[simp] theorem rowBeats_length (bs : List Byte) : (rowBeats bs).length = bs.length := by
  induction bs using rowBeats.induct with
  | case1 => rfl
  | case2 b => rfl
  | case3 b bs h ih =>
    cases bs with
    | nil => exact absurd rfl h
    | cons c cs => simpa [rowBeats] using ih

/-- Beat `i` of a row: byte `i`, with ROW_END on the last one alone. -/
theorem rowBeats_getElem? (bs : List Byte) (i : Nat) :
    (rowBeats bs)[i]? = (bs[i]?).map (fun b => ⟨b, decide (i + 1 = bs.length)⟩) := by
  induction bs using rowBeats.induct generalizing i with
  | case1 => simp [rowBeats]
  | case2 b => cases i <;> simp [rowBeats]
  | case3 b bs h ih =>
    cases bs with
    | nil => exact absurd rfl h
    | cons c cs =>
      cases i with
      | zero => simp [rowBeats]
      | succ i => simp [rowBeats, ih]

@[simp] theorem pixelBytes_length (b : Byte) : (pixelBytes b).length = 8 := by simp [pixelBytes]

/-- Pixel `k` of a packed byte is its bit `7 - k` (R250). -/
theorem pixelBytes_getElem? (b : Byte) (k : Nat) (hk : k < 8) :
    (pixelBytes b)[k]? = some (pixelByte (b.getLsbD (7 - k))) := by
  have : k = 0 ∨ k = 1 ∨ k = 2 ∨ k = 3 ∨ k = 4 ∨ k = 5 ∨ k = 6 ∨ k = 7 := by omega
  rcases this with h | h | h | h | h | h | h | h <;> subst h <;> rfl

/-- The pixels of a list of bytes: eight for each byte. -/
theorem flatMap_pixelBytes_getElem? (bs : List Byte) (q : Nat) :
    (bs.flatMap pixelBytes)[q]? = (bs[q / 8]?).map (fun b => pixelByte (b.getLsbD (7 - q % 8))) := by
  induction bs generalizing q with
  | nil => simp
  | cons b bs ih =>
    rw [List.flatMap_cons, List.getElem?_append, pixelBytes_length]
    by_cases hq : q < 8
    · rw [if_pos hq, pixelBytes_getElem? b q hq, Nat.div_eq_of_lt hq, Nat.mod_eq_of_lt hq]
      simp
    · obtain ⟨r, rfl⟩ : ∃ r, q = r + 8 := ⟨q - 8, by omega⟩
      rw [if_neg hq, Nat.add_sub_cancel, ih, Nat.add_div_right _ (by omega), Nat.add_mod_right]
      simp

@[simp] theorem flatMap_pixelBytes_length (bs : List Byte) : (bs.flatMap pixelBytes).length = 8 * bs.length := by
  induction bs with
  | nil => rfl
  | cons b bs ih => simp only [List.flatMap_cons, List.length_append, pixelBytes_length, List.length_cons, ih]; omega

@[simp] theorem RldUnit.rowBytes_length (u : RldUnit) : u.rowBytes.length = u.rb.toNat := by
  simp [RldUnit.rowBytes]

/-- A completed row leaves the RLD as R245 says, whatever its elements are. -/
theorem RldUnit.rowOutput_eq_emittedRow (u : RldUnit) :
    u.rowOutput = emittedRow u.pix u.rb.toNat u.curAt := by
  apply List.ext_getElem?
  intro i
  unfold RldUnit.rowOutput emittedRow
  cases u.pix with
  | false =>
    simp only [Bool.false_eq_true, if_false]
    rw [rowBeats_getElem?, RldUnit.rowBytes_length, RldUnit.rowBytes, List.getElem?_map, List.getElem?_map]
    by_cases hi : i < u.rb.toNat <;> simp [hi, packByte]
  | true =>
    simp only [if_true]
    rw [rowBeats_getElem?, flatMap_pixelBytes_getElem?, flatMap_pixelBytes_length, RldUnit.rowBytes_length,
      RldUnit.rowBytes, List.getElem?_map, List.getElem?_map]
    by_cases hi : i < 8 * u.rb.toNat
    · have h8 : i / 8 < u.rb.toNat := by omega
      simp [hi, h8, packByte, pixelByte]
    · have h8 : ¬ i / 8 < u.rb.toNat := by omega
      simp [hi, h8]

/-- Two rows with equal nibbles leave the RLD alike. -/
theorem emittedRow_congr (pix : Bool) (r : Nat) (f g : Nat → Nibble) (h : ∀ i, i < 2 * r → f i = g i) :
    emittedRow pix r f = emittedRow pix r g := by
  have hb : ∀ j, j < r → f (2 * j) ++ f (2 * j + 1) = g (2 * j) ++ g (2 * j + 1) := by
    intro j hj
    rw [h (2 * j) (by omega), h (2 * j + 1) (by omega)]
  unfold emittedRow
  cases pix with
  | false => exact List.map_congr_left (fun j hj => by simp [hb j (List.mem_range.1 hj)])
  | true =>
    refine List.map_congr_left (fun q hq => ?_)
    have := List.mem_range.1 hq
    simp [hb (q / 8) (by omega)]

/-! Beats at the units (R91, R92). -/

theorem rldInReady_iff (s : State) : rldInReady s = true ↔ s.rld.state = .run ∧ s.rld.outq = [] := by
  simp [rldInReady]

theorem hexInReady_iff (s : State) : hexInReady s = true ↔ s.hex.state = .run ∧ s.hex.outq = [] := by
  simp [hexInReady]

/-- An accepted beat changes the RLD alone. -/
theorem rldBeat_ready (f : RldUnit → RldUnit) (s : State) (h : rldInReady s = true) :
    rldBeat f s = .next (s.withRld (f s.rld)) := by simp [rldBeat, h]

/-- A held beat changes nothing. -/
theorem rldBeat_held (f : RldUnit → RldUnit) (s : State) (h : rldInReady s = false) :
    rldBeat f s = .next s := by simp [rldBeat, h]

/-- What a beat at the RLD can do: accepted, its effect on the unit; held, nothing. -/
theorem rldBeat_cases (f : RldUnit → RldUnit) (s t : State) (h : rldBeat f s = .next t) :
    (rldInReady s = true ∧ t = s.withRld (f s.rld)) ∨ (rldInReady s = false ∧ t = s) := by
  cases hr : rldInReady s with
  | true => rw [rldBeat_ready f s hr] at h; cases h; exact .inl ⟨rfl, rfl⟩
  | false => rw [rldBeat_held f s hr] at h; cases h; exact .inr ⟨rfl, rfl⟩

theorem hexBeat_ready (f : HexUnit → HexUnit) (s : State) (h : hexInReady s = true) :
    hexBeat f s = .next (s.withHex (f s.hex)) := by simp [hexBeat, h]

theorem hexBeat_held (f : HexUnit → HexUnit) (s : State) (h : hexInReady s = false) :
    hexBeat f s = .next s := by simp [hexBeat, h]

/-- What a beat at the HEX unit can do: accepted, its effect on the unit; held, nothing. -/
theorem hexBeat_cases (f : HexUnit → HexUnit) (s t : State) (h : hexBeat f s = .next t) :
    (hexInReady s = true ∧ t = s.withHex (f s.hex)) ∨ (hexInReady s = false ∧ t = s) := by
  cases hr : hexInReady s with
  | true => rw [hexBeat_ready f s hr] at h; cases h; exact .inl ⟨rfl, rfl⟩
  | false => rw [hexBeat_held f s hr] at h; cases h; exact .inr ⟨rfl, rfl⟩

/-! Char beats (R270..R285): every operation does one of these. -/

/-- The prologue of a body character: EXTRA_DATA after the last row, else the class's rule (R270, R271). -/
theorem charBody_cases (f : RldUnit → RldUnit) (u : RldUnit) :
    (u.rows = u.height ∧ charBody f u = u.countChar.raise .extraData) ∨
    (u.rows ≠ u.height ∧ charBody f u = f u.countChar) := by
  by_cases h : u.rows = u.height
  · exact .inl ⟨h, if_pos h⟩
  · exact .inr ⟨h, if_neg h⟩

/-- A multiplier overflows, or adds to the counter exactly (R272, R286). -/
theorem addMult_cases (v : Nat) (u : RldUnit) :
    (u.rowLen - u.cursor.toNat < u.counter.toNat + v ∧ addMult v u = u.raise .runOverflow) ∨
    (u.counter.toNat + v ≤ u.rowLen - u.cursor.toNat ∧
      addMult v u = { u with counter := BitVec.ofNat 17 (u.counter.toNat + v) }) := by
  by_cases h : u.rowLen - u.cursor.toNat < u.counter.toNat + v
  · exact .inl ⟨h, if_pos h⟩
  · exact .inr ⟨Nat.le_of_not_lt h, if_neg h⟩

/-- A run overflows, or is placed; placed, it completes the row or does not (R277). -/
theorem placeData_cases (n : Nibble) (u : RldUnit) :
    (u.rowLen < u.cursor.toNat + max u.counter.toNat 1 ∧ placeData n u = u.raise .runOverflow) ∨
    (u.cursor.toNat + max u.counter.toNat 1 < u.rowLen ∧
      placeData n u = { u.fillCur u.cursor.toNat (max u.counter.toNat 1) n with
        cursor := BitVec.ofNat 17 (u.cursor.toNat + max u.counter.toNat 1), counter := 0 }) ∨
    (u.cursor.toNat + max u.counter.toNat 1 = u.rowLen ∧
      placeData n u = { u.fillCur u.cursor.toNat (max u.counter.toNat 1) n with
        cursor := BitVec.ofNat 17 (u.cursor.toNat + max u.counter.toNat 1), counter := 0 }.completeRow) := by
  rcases Nat.lt_trichotomy (u.cursor.toNat + max u.counter.toNat 1) u.rowLen with h | h | h
  · exact .inr (.inl ⟨h, by simp [placeData, Nat.not_lt.2 h.le, h.ne]⟩)
  · exact .inr (.inr ⟨h, by simp [placeData, h]⟩)
  · exact .inl ⟨h, by simp [placeData, h]⟩

/-- A fill finds a multiplier pending, or completes the row (R280). -/
theorem fillRow_cases (n : Nibble) (u : RldUnit) :
    (u.counter ≠ 0 ∧ fillRow n u = u.raise .countAtTerminator) ∨
    (u.counter = 0 ∧
      fillRow n u = (u.fillCur u.cursor.toNat (u.rowLen - u.cursor.toNat) n).completeRow) := by
  by_cases h : u.counter = 0
  · exact .inr ⟨h, if_neg (not_not.2 h)⟩
  · exact .inl ⟨h, if_pos h⟩

/-- A repeat fails by one of its three checks, in this order, or completes the row with the previous one
(R282, R338). -/
theorem repeatPrev_cases (u : RldUnit) :
    (u.hasPrev = false ∧ repeatPrev u = u.raise .repeatNoPrev) ∨
    (u.hasPrev = true ∧ u.counter ≠ 0 ∧ repeatPrev u = u.raise .countAtTerminator) ∨
    (u.hasPrev = true ∧ u.counter = 0 ∧ u.cursor ≠ 0 ∧ repeatPrev u = u.raise .repeatMidRow) ∨
    (u.hasPrev = true ∧ u.counter = 0 ∧ u.cursor = 0 ∧ repeatPrev u = u.copyPrev.completeRow) := by
  unfold repeatPrev
  by_cases hp : u.hasPrev = false
  · exact .inl ⟨hp, if_pos hp⟩
  · have hp' : u.hasPrev = true := by simpa using hp
    rw [if_neg hp]
    by_cases hc : u.counter = 0
    · rw [if_neg (not_not.2 hc)]
      by_cases hx : u.cursor = 0
      · exact .inr (.inr (.inr ⟨hp', hc, hx, if_neg (not_not.2 hx)⟩))
      · exact .inr (.inr (.inl ⟨hp', hc, hx, if_pos hx⟩))
    · exact .inr (.inl ⟨hp', hc, if_pos hc⟩)

/-- The End beat fails by one of its three checks, in this order, or ends the run (R246, R338). -/
theorem endBody_cases (u : RldUnit) :
    (u.counter ≠ 0 ∧ endBody u = u.raise .countAtEnd) ∨
    (u.counter = 0 ∧ u.rows.toNat < u.height.toNat ∧ endBody u = u.raise .shortBody) ∨
    (u.counter = 0 ∧ u.height.toNat ≤ u.rows.toNat ∧ u.bodylen ≠ 0 ∧ u.bodycnt ≠ u.bodylen ∧
      endBody u = u.raise .bodylenMismatch) ∨
    (u.counter = 0 ∧ u.height.toNat ≤ u.rows.toNat ∧ (u.bodylen = 0 ∨ u.bodycnt = u.bodylen) ∧
      endBody u = { u with state := .done }) := by
  unfold endBody
  by_cases hc : u.counter = 0
  · rw [if_neg (not_not.2 hc)]
    by_cases hr : u.rows.toNat < u.height.toNat
    · exact .inr (.inl ⟨hc, hr, if_pos hr⟩)
    · rw [if_neg hr]
      by_cases hb : u.bodylen ≠ 0 ∧ u.bodycnt ≠ u.bodylen
      · exact .inr (.inr (.inl ⟨hc, Nat.le_of_not_lt hr, hb.1, hb.2, if_pos hb⟩))
      · refine .inr (.inr (.inr ⟨hc, Nat.le_of_not_lt hr, ?_, if_neg hb⟩))
        by_cases h0 : u.bodylen = 0
        · exact .inl h0
        · exact .inr (not_not.1 fun h => hb ⟨h0, h⟩)
  · exact .inl ⟨hc, if_pos hc⟩

/-- A start fails by one of its four checks, in this order, or starts a run (R241, R338). -/
theorem rldStart_cases (c : Csr) (u : RldUnit) :
    (c.rowbytes.toNat = 0 ∧ rldStart c u = (u.latch c).raise .rZero) ∨
    (c.rowbytes.toNat ≠ 0 ∧ Config.rbMax < c.rowbytes.toNat ∧ rldStart c u = (u.latch c).raise .rAboveMax) ∨
    (c.rowbytes.toNat ≠ 0 ∧ c.rowbytes.toNat ≤ Config.rbMax ∧ c.total.toNat = 0 ∧
      rldStart c u = (u.latch c).raise .totalZero) ∨
    (c.rowbytes.toNat ≠ 0 ∧ c.rowbytes.toNat ≤ Config.rbMax ∧ c.total.toNat ≠ 0 ∧
      c.total.toNat % c.rowbytes.toNat ≠ 0 ∧ rldStart c u = (u.latch c).raise .totalNotMultiple) ∨
    (c.rowbytes.toNat ≠ 0 ∧ c.rowbytes.toNat ≤ Config.rbMax ∧ c.total.toNat ≠ 0 ∧
      c.total.toNat % c.rowbytes.toNat = 0 ∧
      rldStart c u = { u.latch c with
        height := BitVec.ofNat 32 (c.total.toNat / c.rowbytes.toNat), state := .run }) := by
  simp only [rldStart]
  by_cases h0 : c.rowbytes.toNat = 0
  · exact .inl ⟨h0, if_pos h0⟩
  · by_cases h1 : Config.rbMax < c.rowbytes.toNat
    · exact .inr (.inl ⟨h0, h1, by rw [if_neg h0, if_pos h1]⟩)
    · by_cases h2 : c.total.toNat = 0
      · exact .inr (.inr (.inl ⟨h0, Nat.le_of_not_lt h1, h2, by rw [if_neg h0, if_neg h1, if_pos h2]⟩))
      · by_cases h3 : c.total.toNat % c.rowbytes.toNat = 0
        · exact .inr (.inr (.inr (.inr ⟨h0, Nat.le_of_not_lt h1, h2, h3,
            by rw [if_neg h0, if_neg h1, if_neg h2, if_neg (not_not.2 h3)]⟩)))
        · exact .inr (.inr (.inr (.inl ⟨h0, Nat.le_of_not_lt h1, h2, h3,
            by rw [if_neg h0, if_neg h1, if_neg h2, if_pos h3]⟩)))

/-! The HEX unit (R182, R184). -/

/-- A start of the HEX unit fails on R = 0, or starts a run (R182). -/
theorem hexStart_cases (c : Csr) (u : HexUnit) :
    (c.rowbytes = 0 ∧ hexStart c u = { u with
      state := .error, rb := c.rowbytes, upper := c.hexUpper, idx := 0, rows := 0, err := .invalidDimension,
      detail := .rZero }) ∨
    (c.rowbytes ≠ 0 ∧ hexStart c u = { u with
      state := .run, rb := c.rowbytes, upper := c.hexUpper, idx := 0, rows := 0, err := .none,
      detail := .none }) := by
  by_cases h : c.rowbytes = 0
  · exact .inl ⟨h, if_pos h⟩
  · exact .inr ⟨h, if_neg h⟩

/-- A byte at the HEX unit: LAST on the wrong byte, the last byte of a row, or another byte (R184). -/
theorem hexByte_cases (last : Bool) (b : Byte) (u : HexUnit) :
    (last ≠ decide (u.idx.toNat + 1 = u.rb.toNat) ∧ hexByte last b u = u.raise .hexLastMismatch) ∨
    (last = true ∧ u.idx.toNat + 1 = u.rb.toNat ∧ hexByte last b u = { u with
      outq := u.outq ++ [⟨hexChar (hiNibble b) u.upper, false⟩, ⟨hexChar (loNibble b) u.upper, true⟩]
      idx := 0
      rows := u.rows + 1 }) ∨
    (last = false ∧ u.idx.toNat + 1 ≠ u.rb.toNat ∧ hexByte last b u = { u with
      outq := u.outq ++ [⟨hexChar (hiNibble b) u.upper, false⟩, ⟨hexChar (loNibble b) u.upper, false⟩]
      idx := u.idx + 1 }) := by
  by_cases he : u.idx.toNat + 1 = u.rb.toNat
  · cases last with
    | true => exact .inr (.inl ⟨rfl, he, by simp [hexByte, he]⟩)
    | false => exact .inl ⟨by simp [he], by simp [hexByte, he]⟩
  · cases last with
    | true => exact .inl ⟨by simp [he], by simp [hexByte, he]⟩
    | false => exact .inr (.inr ⟨rfl, he, by simp [hexByte, he]⟩)

/-! Host accesses (R300..R302). -/

@[simp] theorem ctrlWrite_csr (d : Word32) (s : State) : (ctrlWrite d s).csr =
    { s.csr with hexEn := d.getLsbD 0, hexUpper := d.getLsbD 1, rldPixel := d.getLsbD 2 } := rfl
@[simp] theorem ctrlWrite_hex (d : Word32) (s : State) : (ctrlWrite d s).hex =
    if s.csr.hexEn = false ∧ d.getLsbD 0 = true then hexStart (ctrlWrite d s).csr s.hex
    else if s.csr.hexEn = true ∧ d.getLsbD 0 = false then hexStop s.hex else s.hex := rfl
@[simp] theorem ctrlWrite_rld (d : Word32) (s : State) : (ctrlWrite d s).rld =
    if d.getLsbD 8 then rldStart (ctrlWrite d s).csr s.rld
    else if d.getLsbD 9 then rldAbort s.rld else s.rld := rfl
@[simp] theorem ctrlWrite_reply (d : Word32) (s : State) : (ctrlWrite d s).reply = some (.write false) := rfl
@[simp] theorem ctrlWrite_hostIn (d : Word32) (s : State) : (ctrlWrite d s).hostIn = s.hostIn := rfl
@[simp] theorem ctrlWrite_hexIn (d : Word32) (s : State) : (ctrlWrite d s).hexIn = s.hexIn := rfl
@[simp] theorem ctrlWrite_rldIn (d : Word32) (s : State) : (ctrlWrite d s).rldIn = s.rldIn := rfl
@[simp] theorem ctrlWrite_schedule (d : Word32) (s : State) : (ctrlWrite d s).schedule = s.schedule := rfl

/-- A host write is a CTRL write, a bus error, or a store to the registers (R84, R301, R302). -/
theorem hostWrite_cases (a : BitVec 8) (d : Word32) (s : State) :
    (a = 0x00#8 ∧ hostWrite a d s = ctrlWrite d s) ∨
    (a ≠ 0x00#8 ∧ busError a = true ∧ hostWrite a d s = s.withReply (.write true)) ∨
    (a ≠ 0x00#8 ∧ busError a = false ∧
      hostWrite a d s = (s.withCsr (csrStore a d s.csr)).withReply (.write false)) := by
  by_cases ha : a = 0x00#8
  · exact .inl ⟨ha, if_pos ha⟩
  · by_cases hb : busError a = true
    · exact .inr (.inl ⟨ha, hb, by simp [hostWrite, ha, hb]⟩)
    · have hb' : busError a = false := by simpa using hb
      exact .inr (.inr ⟨ha, hb', by simp [hostWrite, ha, hb']⟩)

/-- A store to the registers changes none of CTRL (R301). -/
theorem csrStore_ctrl (a : BitVec 8) (d : Word32) (c : Csr) :
    (csrStore a d c).hexEn = c.hexEn ∧ (csrStore a d c).hexUpper = c.hexUpper ∧
      (csrStore a d c).rldPixel = c.rldPixel := by
  unfold csrStore
  split <;> simp

/-! One turn (R93). -/

/-- What a turn can bring. -/
theorem takeTurn_cases (t : Turn) (s : State) :
    (∃ w ws, t = .host ∧ s.hostIn = w :: ws ∧
      takeTurn t s = .instr (decode (.hostOp w)) { s with hostIn := ws }) ∨
    (∃ w ws, t = .hexIn ∧ s.hexIn = w :: ws ∧ hexInReady s = true ∧
      takeTurn t s = .instr (decode (.hexBeat w)) { s with hexIn := ws }) ∨
    (∃ w ws, t = .rldIn ∧ s.rldIn = w :: ws ∧ rldInReady s = true ∧
      takeTurn t s = .instr (decode (.rldBeat w)) { s with rldIn := ws }) ∨
    (t = .hexOut ∧ takeTurn t s = .nothing (takeHexOut s)) ∨
    (t = .rldOut ∧ takeTurn t s = .nothing (takeRldOut s)) ∨
    (t = .rst ∧ takeTurn t s = .nothing (resetBlock s)) ∨
    takeTurn t s = .nothing s := by
  cases t with
  | host => cases h : s.hostIn <;> simp [takeTurn, h]
  | hexIn =>
    cases h : s.hexIn <;> cases hr : hexInReady s <;> simp [takeTurn, h, hr]
  | rldIn =>
    cases h : s.rldIn <;> cases hr : rldInReady s <;> simp [takeTurn, h, hr]
  | hexOut => simp [takeTurn]
  | rldOut => simp [takeTurn]
  | rst => simp [takeTurn]

/-- What a step can do: run one instruction on the state without the input it came from, serve a consumer or
the reset line, or change no more than the schedule. -/
theorem step_cases (s : State) :
    (∃ i t, fetch s = .instr i t ∧ step s = exec i t ∧ t.csr = s.csr ∧ t.hex = s.hex ∧ t.rld = s.rld ∧
      t.reply = s.reply) ∨
    (∃ ts, s.schedule = .hexOut :: ts ∧ step s = .next (takeHexOut { s with schedule := ts })) ∨
    (∃ ts, s.schedule = .rldOut :: ts ∧ step s = .next (takeRldOut { s with schedule := ts })) ∨
    (∃ ts, s.schedule = .rst :: ts ∧ step s = .next (resetBlock { s with schedule := ts })) ∨
    (∃ ts, step s = .next { s with schedule := ts }) := by
  cases hs : s.schedule with
  | nil => exact .inr (.inr (.inr (.inr ⟨[], by
      rw [show ({ s with schedule := [] } : State) = s by rw [← hs]]
      simp only [step, fetch, hs]⟩)))
  | cons t ts =>
    have hf : fetch s = takeTurn t { s with schedule := ts } := by simp [fetch, hs]
    rcases takeTurn_cases t { s with schedule := ts } with
      ⟨w, ws, _, _, h⟩ | ⟨w, ws, _, _, _, h⟩ | ⟨w, ws, _, _, _, h⟩ | ⟨rfl, h⟩ | ⟨rfl, h⟩ | ⟨rfl, h⟩ | h
    · exact .inl ⟨_, _, hf.trans h, by simp only [step, hf.trans h], rfl, rfl, rfl, rfl⟩
    · exact .inl ⟨_, _, hf.trans h, by simp only [step, hf.trans h], rfl, rfl, rfl, rfl⟩
    · exact .inl ⟨_, _, hf.trans h, by simp only [step, hf.trans h], rfl, rfl, rfl, rfl⟩
    · exact .inr (.inl ⟨ts, rfl, by simp only [step, hf.trans h]⟩)
    · exact .inr (.inr (.inl ⟨ts, rfl, by simp only [step, hf.trans h]⟩))
    · exact .inr (.inr (.inr (.inl ⟨ts, rfl, by simp only [step, hf.trans h]⟩)))
    · exact .inr (.inr (.inr (.inr ⟨ts, by simp only [step, hf.trans h]⟩)))

end Sys2Proof.Machine
end

