-- ==== Sys2Proof/Laws/PerInstr.lean ====
section
/-! SUPPORT. A fact about every instruction as syntax, one lemma per constructor of `Instr`: the number of its
encoding is a number of its format, and the decoder reads it as it reads the encoding itself. -/

namespace Sys2Proof.Laws

/-- Decoding an input's number in its format is decoding the input: no input has a bit above its format
(R110). -/
theorem decodeNumber_bits (x : Input) : decodeNumber x.format x.bits = .ok (decode x) := by
  cases x with
  | rldBeat w => simp [decodeNumber, Input.format, Input.bits, Format.width, w.isLt]
  | hexBeat w => simp [decodeNumber, Input.format, Input.bits, Format.width, w.isLt]
  | hostOp w => simp [decodeNumber, Input.format, Input.bits, Format.width, w.isLt]

/-- The number an instruction is encoded as is accepted by the decoder, and means what the encoding means. -/
def EncodeNumber.Statement (i : Instr) : Prop :=
  decodeNumber (encode i).format (encode i).bits = .ok (decode (encode i))

theorem EncodeNumber.endBeat (char : BitVec 8) : EncodeNumber.Statement (.endBeat char) := decodeNumber_bits _
theorem EncodeNumber.hexByte (last : Bool) (data : BitVec 8) : EncodeNumber.Statement (.hexByte last data) := decodeNumber_bits _
theorem EncodeNumber.csrRead (addr : BitVec 8) (data : BitVec 32) : EncodeNumber.Statement (.csrRead addr data) := decodeNumber_bits _
theorem EncodeNumber.ctrlWrite (data : BitVec 32) : EncodeNumber.Statement (.ctrlWrite data) := decodeNumber_bits _
theorem EncodeNumber.csrWrite (addr : BitVec 8) (data : BitVec 32) : EncodeNumber.Statement (.csrWrite addr data) := decodeNumber_bits _
theorem EncodeNumber.hexStart (data : BitVec 32) : EncodeNumber.Statement (.hexStart data) := decodeNumber_bits _
theorem EncodeNumber.hexStop (data : BitVec 32) : EncodeNumber.Statement (.hexStop data) := decodeNumber_bits _
theorem EncodeNumber.rldStart (data : BitVec 32) : EncodeNumber.Statement (.rldStart data) := decodeNumber_bits _
theorem EncodeNumber.rldAbort (data : BitVec 32) : EncodeNumber.Statement (.rldAbort data) := decodeNumber_bits _
theorem EncodeNumber.lutEncode (data : BitVec 32) : EncodeNumber.Statement (.lutEncode data) := decodeNumber_bits _
theorem EncodeNumber.lutDecode (data : BitVec 32) : EncodeNumber.Statement (.lutDecode data) := decodeNumber_bits _
theorem EncodeNumber.invalid0x00 : EncodeNumber.Statement .invalid0x00 := decodeNumber_bits _
theorem EncodeNumber.invalid0x01 : EncodeNumber.Statement .invalid0x01 := decodeNumber_bits _
theorem EncodeNumber.invalid0x02 : EncodeNumber.Statement .invalid0x02 := decodeNumber_bits _
theorem EncodeNumber.invalid0x03 : EncodeNumber.Statement .invalid0x03 := decodeNumber_bits _
theorem EncodeNumber.invalid0x04 : EncodeNumber.Statement .invalid0x04 := decodeNumber_bits _
theorem EncodeNumber.invalid0x05 : EncodeNumber.Statement .invalid0x05 := decodeNumber_bits _
theorem EncodeNumber.invalid0x06 : EncodeNumber.Statement .invalid0x06 := decodeNumber_bits _
theorem EncodeNumber.invalid0x07 : EncodeNumber.Statement .invalid0x07 := decodeNumber_bits _
theorem EncodeNumber.invalid0x08 : EncodeNumber.Statement .invalid0x08 := decodeNumber_bits _
theorem EncodeNumber.invalid0x09 : EncodeNumber.Statement .invalid0x09 := decodeNumber_bits _
theorem EncodeNumber.skipLf : EncodeNumber.Statement .skipLf := decodeNumber_bits _
theorem EncodeNumber.invalid0x0B : EncodeNumber.Statement .invalid0x0B := decodeNumber_bits _
theorem EncodeNumber.invalid0x0C : EncodeNumber.Statement .invalid0x0C := decodeNumber_bits _
theorem EncodeNumber.skipCr : EncodeNumber.Statement .skipCr := decodeNumber_bits _
theorem EncodeNumber.invalid0x0E : EncodeNumber.Statement .invalid0x0E := decodeNumber_bits _
theorem EncodeNumber.invalid0x0F : EncodeNumber.Statement .invalid0x0F := decodeNumber_bits _
theorem EncodeNumber.invalid0x10 : EncodeNumber.Statement .invalid0x10 := decodeNumber_bits _
theorem EncodeNumber.invalid0x11 : EncodeNumber.Statement .invalid0x11 := decodeNumber_bits _
theorem EncodeNumber.invalid0x12 : EncodeNumber.Statement .invalid0x12 := decodeNumber_bits _
theorem EncodeNumber.invalid0x13 : EncodeNumber.Statement .invalid0x13 := decodeNumber_bits _
theorem EncodeNumber.invalid0x14 : EncodeNumber.Statement .invalid0x14 := decodeNumber_bits _
theorem EncodeNumber.invalid0x15 : EncodeNumber.Statement .invalid0x15 := decodeNumber_bits _
theorem EncodeNumber.invalid0x16 : EncodeNumber.Statement .invalid0x16 := decodeNumber_bits _
theorem EncodeNumber.invalid0x17 : EncodeNumber.Statement .invalid0x17 := decodeNumber_bits _
theorem EncodeNumber.invalid0x18 : EncodeNumber.Statement .invalid0x18 := decodeNumber_bits _
theorem EncodeNumber.invalid0x19 : EncodeNumber.Statement .invalid0x19 := decodeNumber_bits _
theorem EncodeNumber.invalid0x1A : EncodeNumber.Statement .invalid0x1A := decodeNumber_bits _
theorem EncodeNumber.invalid0x1B : EncodeNumber.Statement .invalid0x1B := decodeNumber_bits _
theorem EncodeNumber.invalid0x1C : EncodeNumber.Statement .invalid0x1C := decodeNumber_bits _
theorem EncodeNumber.invalid0x1D : EncodeNumber.Statement .invalid0x1D := decodeNumber_bits _
theorem EncodeNumber.invalid0x1E : EncodeNumber.Statement .invalid0x1E := decodeNumber_bits _
theorem EncodeNumber.invalid0x1F : EncodeNumber.Statement .invalid0x1F := decodeNumber_bits _
theorem EncodeNumber.invalid0x20 : EncodeNumber.Statement .invalid0x20 := decodeNumber_bits _
theorem EncodeNumber.fillBlack : EncodeNumber.Statement .fillBlack := decodeNumber_bits _
theorem EncodeNumber.invalid0x22 : EncodeNumber.Statement .invalid0x22 := decodeNumber_bits _
theorem EncodeNumber.invalid0x23 : EncodeNumber.Statement .invalid0x23 := decodeNumber_bits _
theorem EncodeNumber.invalid0x24 : EncodeNumber.Statement .invalid0x24 := decodeNumber_bits _
theorem EncodeNumber.invalid0x25 : EncodeNumber.Statement .invalid0x25 := decodeNumber_bits _
theorem EncodeNumber.invalid0x26 : EncodeNumber.Statement .invalid0x26 := decodeNumber_bits _
theorem EncodeNumber.invalid0x27 : EncodeNumber.Statement .invalid0x27 := decodeNumber_bits _
theorem EncodeNumber.invalid0x28 : EncodeNumber.Statement .invalid0x28 := decodeNumber_bits _
theorem EncodeNumber.invalid0x29 : EncodeNumber.Statement .invalid0x29 := decodeNumber_bits _
theorem EncodeNumber.invalid0x2A : EncodeNumber.Statement .invalid0x2A := decodeNumber_bits _
theorem EncodeNumber.invalid0x2B : EncodeNumber.Statement .invalid0x2B := decodeNumber_bits _
theorem EncodeNumber.fillWhite : EncodeNumber.Statement .fillWhite := decodeNumber_bits _
theorem EncodeNumber.invalid0x2D : EncodeNumber.Statement .invalid0x2D := decodeNumber_bits _
theorem EncodeNumber.invalid0x2E : EncodeNumber.Statement .invalid0x2E := decodeNumber_bits _
theorem EncodeNumber.invalid0x2F : EncodeNumber.Statement .invalid0x2F := decodeNumber_bits _
theorem EncodeNumber.dataDigit0 : EncodeNumber.Statement .dataDigit0 := decodeNumber_bits _
theorem EncodeNumber.dataDigit1 : EncodeNumber.Statement .dataDigit1 := decodeNumber_bits _
theorem EncodeNumber.dataDigit2 : EncodeNumber.Statement .dataDigit2 := decodeNumber_bits _
theorem EncodeNumber.dataDigit3 : EncodeNumber.Statement .dataDigit3 := decodeNumber_bits _
theorem EncodeNumber.dataDigit4 : EncodeNumber.Statement .dataDigit4 := decodeNumber_bits _
theorem EncodeNumber.dataDigit5 : EncodeNumber.Statement .dataDigit5 := decodeNumber_bits _
theorem EncodeNumber.dataDigit6 : EncodeNumber.Statement .dataDigit6 := decodeNumber_bits _
theorem EncodeNumber.dataDigit7 : EncodeNumber.Statement .dataDigit7 := decodeNumber_bits _
theorem EncodeNumber.dataDigit8 : EncodeNumber.Statement .dataDigit8 := decodeNumber_bits _
theorem EncodeNumber.dataDigit9 : EncodeNumber.Statement .dataDigit9 := decodeNumber_bits _
theorem EncodeNumber.repeatRow : EncodeNumber.Statement .repeatRow := decodeNumber_bits _
theorem EncodeNumber.invalid0x3B : EncodeNumber.Statement .invalid0x3B := decodeNumber_bits _
theorem EncodeNumber.invalid0x3C : EncodeNumber.Statement .invalid0x3C := decodeNumber_bits _
theorem EncodeNumber.invalid0x3D : EncodeNumber.Statement .invalid0x3D := decodeNumber_bits _
theorem EncodeNumber.invalid0x3E : EncodeNumber.Statement .invalid0x3E := decodeNumber_bits _
theorem EncodeNumber.invalid0x3F : EncodeNumber.Statement .invalid0x3F := decodeNumber_bits _
theorem EncodeNumber.invalid0x40 : EncodeNumber.Statement .invalid0x40 := decodeNumber_bits _
theorem EncodeNumber.dataUpperA : EncodeNumber.Statement .dataUpperA := decodeNumber_bits _
theorem EncodeNumber.dataUpperB : EncodeNumber.Statement .dataUpperB := decodeNumber_bits _
theorem EncodeNumber.dataUpperC : EncodeNumber.Statement .dataUpperC := decodeNumber_bits _
theorem EncodeNumber.dataUpperD : EncodeNumber.Statement .dataUpperD := decodeNumber_bits _
theorem EncodeNumber.dataUpperE : EncodeNumber.Statement .dataUpperE := decodeNumber_bits _
theorem EncodeNumber.dataUpperF : EncodeNumber.Statement .dataUpperF := decodeNumber_bits _
theorem EncodeNumber.multLowG : EncodeNumber.Statement .multLowG := decodeNumber_bits _
theorem EncodeNumber.multLowH : EncodeNumber.Statement .multLowH := decodeNumber_bits _
theorem EncodeNumber.multLowI : EncodeNumber.Statement .multLowI := decodeNumber_bits _
theorem EncodeNumber.multLowJ : EncodeNumber.Statement .multLowJ := decodeNumber_bits _
theorem EncodeNumber.multLowK : EncodeNumber.Statement .multLowK := decodeNumber_bits _
theorem EncodeNumber.multLowL : EncodeNumber.Statement .multLowL := decodeNumber_bits _
theorem EncodeNumber.multLowM : EncodeNumber.Statement .multLowM := decodeNumber_bits _
theorem EncodeNumber.multLowN : EncodeNumber.Statement .multLowN := decodeNumber_bits _
theorem EncodeNumber.multLowO : EncodeNumber.Statement .multLowO := decodeNumber_bits _
theorem EncodeNumber.multLowP : EncodeNumber.Statement .multLowP := decodeNumber_bits _
theorem EncodeNumber.multLowQ : EncodeNumber.Statement .multLowQ := decodeNumber_bits _
theorem EncodeNumber.multLowR : EncodeNumber.Statement .multLowR := decodeNumber_bits _
theorem EncodeNumber.multLowS : EncodeNumber.Statement .multLowS := decodeNumber_bits _
theorem EncodeNumber.multLowT : EncodeNumber.Statement .multLowT := decodeNumber_bits _
theorem EncodeNumber.multLowU : EncodeNumber.Statement .multLowU := decodeNumber_bits _
theorem EncodeNumber.multLowV : EncodeNumber.Statement .multLowV := decodeNumber_bits _
theorem EncodeNumber.multLowW : EncodeNumber.Statement .multLowW := decodeNumber_bits _
theorem EncodeNumber.multLowX : EncodeNumber.Statement .multLowX := decodeNumber_bits _
theorem EncodeNumber.multLowY : EncodeNumber.Statement .multLowY := decodeNumber_bits _
theorem EncodeNumber.invalid0x5A : EncodeNumber.Statement .invalid0x5A := decodeNumber_bits _
theorem EncodeNumber.invalid0x5B : EncodeNumber.Statement .invalid0x5B := decodeNumber_bits _
theorem EncodeNumber.invalid0x5C : EncodeNumber.Statement .invalid0x5C := decodeNumber_bits _
theorem EncodeNumber.invalid0x5D : EncodeNumber.Statement .invalid0x5D := decodeNumber_bits _
theorem EncodeNumber.invalid0x5E : EncodeNumber.Statement .invalid0x5E := decodeNumber_bits _
theorem EncodeNumber.invalid0x5F : EncodeNumber.Statement .invalid0x5F := decodeNumber_bits _
theorem EncodeNumber.invalid0x60 : EncodeNumber.Statement .invalid0x60 := decodeNumber_bits _
theorem EncodeNumber.dataLowerA : EncodeNumber.Statement .dataLowerA := decodeNumber_bits _
theorem EncodeNumber.dataLowerB : EncodeNumber.Statement .dataLowerB := decodeNumber_bits _
theorem EncodeNumber.dataLowerC : EncodeNumber.Statement .dataLowerC := decodeNumber_bits _
theorem EncodeNumber.dataLowerD : EncodeNumber.Statement .dataLowerD := decodeNumber_bits _
theorem EncodeNumber.dataLowerE : EncodeNumber.Statement .dataLowerE := decodeNumber_bits _
theorem EncodeNumber.dataLowerF : EncodeNumber.Statement .dataLowerF := decodeNumber_bits _
theorem EncodeNumber.multHighG : EncodeNumber.Statement .multHighG := decodeNumber_bits _
theorem EncodeNumber.multHighH : EncodeNumber.Statement .multHighH := decodeNumber_bits _
theorem EncodeNumber.multHighI : EncodeNumber.Statement .multHighI := decodeNumber_bits _
theorem EncodeNumber.multHighJ : EncodeNumber.Statement .multHighJ := decodeNumber_bits _
theorem EncodeNumber.multHighK : EncodeNumber.Statement .multHighK := decodeNumber_bits _
theorem EncodeNumber.multHighL : EncodeNumber.Statement .multHighL := decodeNumber_bits _
theorem EncodeNumber.multHighM : EncodeNumber.Statement .multHighM := decodeNumber_bits _
theorem EncodeNumber.multHighN : EncodeNumber.Statement .multHighN := decodeNumber_bits _
theorem EncodeNumber.multHighO : EncodeNumber.Statement .multHighO := decodeNumber_bits _
theorem EncodeNumber.multHighP : EncodeNumber.Statement .multHighP := decodeNumber_bits _
theorem EncodeNumber.multHighQ : EncodeNumber.Statement .multHighQ := decodeNumber_bits _
theorem EncodeNumber.multHighR : EncodeNumber.Statement .multHighR := decodeNumber_bits _
theorem EncodeNumber.multHighS : EncodeNumber.Statement .multHighS := decodeNumber_bits _
theorem EncodeNumber.multHighT : EncodeNumber.Statement .multHighT := decodeNumber_bits _
theorem EncodeNumber.multHighU : EncodeNumber.Statement .multHighU := decodeNumber_bits _
theorem EncodeNumber.multHighV : EncodeNumber.Statement .multHighV := decodeNumber_bits _
theorem EncodeNumber.multHighW : EncodeNumber.Statement .multHighW := decodeNumber_bits _
theorem EncodeNumber.multHighX : EncodeNumber.Statement .multHighX := decodeNumber_bits _
theorem EncodeNumber.multHighY : EncodeNumber.Statement .multHighY := decodeNumber_bits _
theorem EncodeNumber.multHighZ : EncodeNumber.Statement .multHighZ := decodeNumber_bits _
theorem EncodeNumber.invalid0x7B : EncodeNumber.Statement .invalid0x7B := decodeNumber_bits _
theorem EncodeNumber.invalid0x7C : EncodeNumber.Statement .invalid0x7C := decodeNumber_bits _
theorem EncodeNumber.invalid0x7D : EncodeNumber.Statement .invalid0x7D := decodeNumber_bits _
theorem EncodeNumber.invalid0x7E : EncodeNumber.Statement .invalid0x7E := decodeNumber_bits _
theorem EncodeNumber.invalid0x7F : EncodeNumber.Statement .invalid0x7F := decodeNumber_bits _
theorem EncodeNumber.invalid0x80 : EncodeNumber.Statement .invalid0x80 := decodeNumber_bits _
theorem EncodeNumber.invalid0x81 : EncodeNumber.Statement .invalid0x81 := decodeNumber_bits _
theorem EncodeNumber.invalid0x82 : EncodeNumber.Statement .invalid0x82 := decodeNumber_bits _
theorem EncodeNumber.invalid0x83 : EncodeNumber.Statement .invalid0x83 := decodeNumber_bits _
theorem EncodeNumber.invalid0x84 : EncodeNumber.Statement .invalid0x84 := decodeNumber_bits _
theorem EncodeNumber.invalid0x85 : EncodeNumber.Statement .invalid0x85 := decodeNumber_bits _
theorem EncodeNumber.invalid0x86 : EncodeNumber.Statement .invalid0x86 := decodeNumber_bits _
theorem EncodeNumber.invalid0x87 : EncodeNumber.Statement .invalid0x87 := decodeNumber_bits _
theorem EncodeNumber.invalid0x88 : EncodeNumber.Statement .invalid0x88 := decodeNumber_bits _
theorem EncodeNumber.invalid0x89 : EncodeNumber.Statement .invalid0x89 := decodeNumber_bits _
theorem EncodeNumber.invalid0x8A : EncodeNumber.Statement .invalid0x8A := decodeNumber_bits _
theorem EncodeNumber.invalid0x8B : EncodeNumber.Statement .invalid0x8B := decodeNumber_bits _
theorem EncodeNumber.invalid0x8C : EncodeNumber.Statement .invalid0x8C := decodeNumber_bits _
theorem EncodeNumber.invalid0x8D : EncodeNumber.Statement .invalid0x8D := decodeNumber_bits _
theorem EncodeNumber.invalid0x8E : EncodeNumber.Statement .invalid0x8E := decodeNumber_bits _
theorem EncodeNumber.invalid0x8F : EncodeNumber.Statement .invalid0x8F := decodeNumber_bits _
theorem EncodeNumber.invalid0x90 : EncodeNumber.Statement .invalid0x90 := decodeNumber_bits _
theorem EncodeNumber.invalid0x91 : EncodeNumber.Statement .invalid0x91 := decodeNumber_bits _
theorem EncodeNumber.invalid0x92 : EncodeNumber.Statement .invalid0x92 := decodeNumber_bits _
theorem EncodeNumber.invalid0x93 : EncodeNumber.Statement .invalid0x93 := decodeNumber_bits _
theorem EncodeNumber.invalid0x94 : EncodeNumber.Statement .invalid0x94 := decodeNumber_bits _
theorem EncodeNumber.invalid0x95 : EncodeNumber.Statement .invalid0x95 := decodeNumber_bits _
theorem EncodeNumber.invalid0x96 : EncodeNumber.Statement .invalid0x96 := decodeNumber_bits _
theorem EncodeNumber.invalid0x97 : EncodeNumber.Statement .invalid0x97 := decodeNumber_bits _
theorem EncodeNumber.invalid0x98 : EncodeNumber.Statement .invalid0x98 := decodeNumber_bits _
theorem EncodeNumber.invalid0x99 : EncodeNumber.Statement .invalid0x99 := decodeNumber_bits _
theorem EncodeNumber.invalid0x9A : EncodeNumber.Statement .invalid0x9A := decodeNumber_bits _
theorem EncodeNumber.invalid0x9B : EncodeNumber.Statement .invalid0x9B := decodeNumber_bits _
theorem EncodeNumber.invalid0x9C : EncodeNumber.Statement .invalid0x9C := decodeNumber_bits _
theorem EncodeNumber.invalid0x9D : EncodeNumber.Statement .invalid0x9D := decodeNumber_bits _
theorem EncodeNumber.invalid0x9E : EncodeNumber.Statement .invalid0x9E := decodeNumber_bits _
theorem EncodeNumber.invalid0x9F : EncodeNumber.Statement .invalid0x9F := decodeNumber_bits _
theorem EncodeNumber.invalid0xA0 : EncodeNumber.Statement .invalid0xA0 := decodeNumber_bits _
theorem EncodeNumber.invalid0xA1 : EncodeNumber.Statement .invalid0xA1 := decodeNumber_bits _
theorem EncodeNumber.invalid0xA2 : EncodeNumber.Statement .invalid0xA2 := decodeNumber_bits _
theorem EncodeNumber.invalid0xA3 : EncodeNumber.Statement .invalid0xA3 := decodeNumber_bits _
theorem EncodeNumber.invalid0xA4 : EncodeNumber.Statement .invalid0xA4 := decodeNumber_bits _
theorem EncodeNumber.invalid0xA5 : EncodeNumber.Statement .invalid0xA5 := decodeNumber_bits _
theorem EncodeNumber.invalid0xA6 : EncodeNumber.Statement .invalid0xA6 := decodeNumber_bits _
theorem EncodeNumber.invalid0xA7 : EncodeNumber.Statement .invalid0xA7 := decodeNumber_bits _
theorem EncodeNumber.invalid0xA8 : EncodeNumber.Statement .invalid0xA8 := decodeNumber_bits _
theorem EncodeNumber.invalid0xA9 : EncodeNumber.Statement .invalid0xA9 := decodeNumber_bits _
theorem EncodeNumber.invalid0xAA : EncodeNumber.Statement .invalid0xAA := decodeNumber_bits _
theorem EncodeNumber.invalid0xAB : EncodeNumber.Statement .invalid0xAB := decodeNumber_bits _
theorem EncodeNumber.invalid0xAC : EncodeNumber.Statement .invalid0xAC := decodeNumber_bits _
theorem EncodeNumber.invalid0xAD : EncodeNumber.Statement .invalid0xAD := decodeNumber_bits _
theorem EncodeNumber.invalid0xAE : EncodeNumber.Statement .invalid0xAE := decodeNumber_bits _
theorem EncodeNumber.invalid0xAF : EncodeNumber.Statement .invalid0xAF := decodeNumber_bits _
theorem EncodeNumber.invalid0xB0 : EncodeNumber.Statement .invalid0xB0 := decodeNumber_bits _
theorem EncodeNumber.invalid0xB1 : EncodeNumber.Statement .invalid0xB1 := decodeNumber_bits _
theorem EncodeNumber.invalid0xB2 : EncodeNumber.Statement .invalid0xB2 := decodeNumber_bits _
theorem EncodeNumber.invalid0xB3 : EncodeNumber.Statement .invalid0xB3 := decodeNumber_bits _
theorem EncodeNumber.invalid0xB4 : EncodeNumber.Statement .invalid0xB4 := decodeNumber_bits _
theorem EncodeNumber.invalid0xB5 : EncodeNumber.Statement .invalid0xB5 := decodeNumber_bits _
theorem EncodeNumber.invalid0xB6 : EncodeNumber.Statement .invalid0xB6 := decodeNumber_bits _
theorem EncodeNumber.invalid0xB7 : EncodeNumber.Statement .invalid0xB7 := decodeNumber_bits _
theorem EncodeNumber.invalid0xB8 : EncodeNumber.Statement .invalid0xB8 := decodeNumber_bits _
theorem EncodeNumber.invalid0xB9 : EncodeNumber.Statement .invalid0xB9 := decodeNumber_bits _
theorem EncodeNumber.invalid0xBA : EncodeNumber.Statement .invalid0xBA := decodeNumber_bits _
theorem EncodeNumber.invalid0xBB : EncodeNumber.Statement .invalid0xBB := decodeNumber_bits _
theorem EncodeNumber.invalid0xBC : EncodeNumber.Statement .invalid0xBC := decodeNumber_bits _
theorem EncodeNumber.invalid0xBD : EncodeNumber.Statement .invalid0xBD := decodeNumber_bits _
theorem EncodeNumber.invalid0xBE : EncodeNumber.Statement .invalid0xBE := decodeNumber_bits _
theorem EncodeNumber.invalid0xBF : EncodeNumber.Statement .invalid0xBF := decodeNumber_bits _
theorem EncodeNumber.invalid0xC0 : EncodeNumber.Statement .invalid0xC0 := decodeNumber_bits _
theorem EncodeNumber.invalid0xC1 : EncodeNumber.Statement .invalid0xC1 := decodeNumber_bits _
theorem EncodeNumber.invalid0xC2 : EncodeNumber.Statement .invalid0xC2 := decodeNumber_bits _
theorem EncodeNumber.invalid0xC3 : EncodeNumber.Statement .invalid0xC3 := decodeNumber_bits _
theorem EncodeNumber.invalid0xC4 : EncodeNumber.Statement .invalid0xC4 := decodeNumber_bits _
theorem EncodeNumber.invalid0xC5 : EncodeNumber.Statement .invalid0xC5 := decodeNumber_bits _
theorem EncodeNumber.invalid0xC6 : EncodeNumber.Statement .invalid0xC6 := decodeNumber_bits _
theorem EncodeNumber.invalid0xC7 : EncodeNumber.Statement .invalid0xC7 := decodeNumber_bits _
theorem EncodeNumber.invalid0xC8 : EncodeNumber.Statement .invalid0xC8 := decodeNumber_bits _
theorem EncodeNumber.invalid0xC9 : EncodeNumber.Statement .invalid0xC9 := decodeNumber_bits _
theorem EncodeNumber.invalid0xCA : EncodeNumber.Statement .invalid0xCA := decodeNumber_bits _
theorem EncodeNumber.invalid0xCB : EncodeNumber.Statement .invalid0xCB := decodeNumber_bits _
theorem EncodeNumber.invalid0xCC : EncodeNumber.Statement .invalid0xCC := decodeNumber_bits _
theorem EncodeNumber.invalid0xCD : EncodeNumber.Statement .invalid0xCD := decodeNumber_bits _
theorem EncodeNumber.invalid0xCE : EncodeNumber.Statement .invalid0xCE := decodeNumber_bits _
theorem EncodeNumber.invalid0xCF : EncodeNumber.Statement .invalid0xCF := decodeNumber_bits _
theorem EncodeNumber.invalid0xD0 : EncodeNumber.Statement .invalid0xD0 := decodeNumber_bits _
theorem EncodeNumber.invalid0xD1 : EncodeNumber.Statement .invalid0xD1 := decodeNumber_bits _
theorem EncodeNumber.invalid0xD2 : EncodeNumber.Statement .invalid0xD2 := decodeNumber_bits _
theorem EncodeNumber.invalid0xD3 : EncodeNumber.Statement .invalid0xD3 := decodeNumber_bits _
theorem EncodeNumber.invalid0xD4 : EncodeNumber.Statement .invalid0xD4 := decodeNumber_bits _
theorem EncodeNumber.invalid0xD5 : EncodeNumber.Statement .invalid0xD5 := decodeNumber_bits _
theorem EncodeNumber.invalid0xD6 : EncodeNumber.Statement .invalid0xD6 := decodeNumber_bits _
theorem EncodeNumber.invalid0xD7 : EncodeNumber.Statement .invalid0xD7 := decodeNumber_bits _
theorem EncodeNumber.invalid0xD8 : EncodeNumber.Statement .invalid0xD8 := decodeNumber_bits _
theorem EncodeNumber.invalid0xD9 : EncodeNumber.Statement .invalid0xD9 := decodeNumber_bits _
theorem EncodeNumber.invalid0xDA : EncodeNumber.Statement .invalid0xDA := decodeNumber_bits _
theorem EncodeNumber.invalid0xDB : EncodeNumber.Statement .invalid0xDB := decodeNumber_bits _
theorem EncodeNumber.invalid0xDC : EncodeNumber.Statement .invalid0xDC := decodeNumber_bits _
theorem EncodeNumber.invalid0xDD : EncodeNumber.Statement .invalid0xDD := decodeNumber_bits _
theorem EncodeNumber.invalid0xDE : EncodeNumber.Statement .invalid0xDE := decodeNumber_bits _
theorem EncodeNumber.invalid0xDF : EncodeNumber.Statement .invalid0xDF := decodeNumber_bits _
theorem EncodeNumber.invalid0xE0 : EncodeNumber.Statement .invalid0xE0 := decodeNumber_bits _
theorem EncodeNumber.invalid0xE1 : EncodeNumber.Statement .invalid0xE1 := decodeNumber_bits _
theorem EncodeNumber.invalid0xE2 : EncodeNumber.Statement .invalid0xE2 := decodeNumber_bits _
theorem EncodeNumber.invalid0xE3 : EncodeNumber.Statement .invalid0xE3 := decodeNumber_bits _
theorem EncodeNumber.invalid0xE4 : EncodeNumber.Statement .invalid0xE4 := decodeNumber_bits _
theorem EncodeNumber.invalid0xE5 : EncodeNumber.Statement .invalid0xE5 := decodeNumber_bits _
theorem EncodeNumber.invalid0xE6 : EncodeNumber.Statement .invalid0xE6 := decodeNumber_bits _
theorem EncodeNumber.invalid0xE7 : EncodeNumber.Statement .invalid0xE7 := decodeNumber_bits _
theorem EncodeNumber.invalid0xE8 : EncodeNumber.Statement .invalid0xE8 := decodeNumber_bits _
theorem EncodeNumber.invalid0xE9 : EncodeNumber.Statement .invalid0xE9 := decodeNumber_bits _
theorem EncodeNumber.invalid0xEA : EncodeNumber.Statement .invalid0xEA := decodeNumber_bits _
theorem EncodeNumber.invalid0xEB : EncodeNumber.Statement .invalid0xEB := decodeNumber_bits _
theorem EncodeNumber.invalid0xEC : EncodeNumber.Statement .invalid0xEC := decodeNumber_bits _
theorem EncodeNumber.invalid0xED : EncodeNumber.Statement .invalid0xED := decodeNumber_bits _
theorem EncodeNumber.invalid0xEE : EncodeNumber.Statement .invalid0xEE := decodeNumber_bits _
theorem EncodeNumber.invalid0xEF : EncodeNumber.Statement .invalid0xEF := decodeNumber_bits _
theorem EncodeNumber.invalid0xF0 : EncodeNumber.Statement .invalid0xF0 := decodeNumber_bits _
theorem EncodeNumber.invalid0xF1 : EncodeNumber.Statement .invalid0xF1 := decodeNumber_bits _
theorem EncodeNumber.invalid0xF2 : EncodeNumber.Statement .invalid0xF2 := decodeNumber_bits _
theorem EncodeNumber.invalid0xF3 : EncodeNumber.Statement .invalid0xF3 := decodeNumber_bits _
theorem EncodeNumber.invalid0xF4 : EncodeNumber.Statement .invalid0xF4 := decodeNumber_bits _
theorem EncodeNumber.invalid0xF5 : EncodeNumber.Statement .invalid0xF5 := decodeNumber_bits _
theorem EncodeNumber.invalid0xF6 : EncodeNumber.Statement .invalid0xF6 := decodeNumber_bits _
theorem EncodeNumber.invalid0xF7 : EncodeNumber.Statement .invalid0xF7 := decodeNumber_bits _
theorem EncodeNumber.invalid0xF8 : EncodeNumber.Statement .invalid0xF8 := decodeNumber_bits _
theorem EncodeNumber.invalid0xF9 : EncodeNumber.Statement .invalid0xF9 := decodeNumber_bits _
theorem EncodeNumber.invalid0xFA : EncodeNumber.Statement .invalid0xFA := decodeNumber_bits _
theorem EncodeNumber.invalid0xFB : EncodeNumber.Statement .invalid0xFB := decodeNumber_bits _
theorem EncodeNumber.invalid0xFC : EncodeNumber.Statement .invalid0xFC := decodeNumber_bits _
theorem EncodeNumber.invalid0xFD : EncodeNumber.Statement .invalid0xFD := decodeNumber_bits _
theorem EncodeNumber.invalid0xFE : EncodeNumber.Statement .invalid0xFE := decodeNumber_bits _
theorem EncodeNumber.invalid0xFF : EncodeNumber.Statement .invalid0xFF := decodeNumber_bits _

end Sys2Proof.Laws
end

