-- ==== Sys2Proof/Laws/RefCompress.lean ====
section
/-! SUPPORT. What the reference compressor does with one row more, said once
(spec/42_reference_compressor.md R216, R217). -/

namespace Sys2Proof.Machine

@[simp] theorem compressAfter_nil (last : Option (List Byte)) : compressAfter last [] = [] := rfl

/-- One row: `:` where it folds as the row before it, else folded; the rows after it see its fold (R216). -/
theorem compressAfter_cons (last : Option (List Byte)) (row : List Byte) (rows : List (List Byte)) :
    compressAfter last (row :: rows) =
      (if last = some (foldRow row) then [0x3A#8] else foldRow row) ++ compressAfter (some (foldRow row)) rows :=
  rfl

/-- A row that folds as the row before it adds `:` (R216). -/
theorem compressAfter_repeat (row : List Byte) (rows : List (List Byte)) :
    compressAfter (some (foldRow row)) (row :: rows) = 0x3A#8 :: compressAfter (some (foldRow row)) rows := by
  simp [compressAfter_cons]

/-- Rows up to and with one row, then the rest, which sees that row's fold alone (R216, R217). -/
theorem compressAfter_append (last : Option (List Byte)) (before after : List (List Byte)) (row : List Byte) :
    compressAfter last (before ++ row :: after) =
      compressAfter last (before ++ [row]) ++ compressAfter (some (foldRow row)) after := by
  induction before generalizing last with
  | nil => simp [compressAfter_cons]
  | cons b bs ih => simp only [List.cons_append, compressAfter_cons, ih, List.append_assoc]

end Sys2Proof.Machine
end

