-- ==== Sys2Proof/Tests/Slice0.lean ====
section
/-! SUPPORT. Tests: the words of the encoding tables decode to their rows, ill-formed terms are refused, single
steps answer what spec/95_test_vectors.md says, and a concrete witness meets the hypotheses of each clause of
the statements. Each expected value is read from the opcode table or from the vector that its comment names. -/

namespace Sys2Proof.Tests

open Sys2Proof Sys2Proof.Machine

/-! Decoding: the match words of spec/opcode_table.json, every Char beat exactly. -/

theorem test_decode_chars_0 :
    ([0x000, 0x001, 0x002, 0x003, 0x004, 0x005, 0x006, 0x007, 0x008, 0x009, 0x00A, 0x00B, 0x00C, 0x00D, 0x00E, 0x00F,
      0x010, 0x011, 0x012, 0x013, 0x014, 0x015, 0x016, 0x017, 0x018, 0x019, 0x01A, 0x01B, 0x01C, 0x01D, 0x01E, 0x01F] : List Nat).map (decodeTableWord 16) =
    ([.invalid0x00, .invalid0x01, .invalid0x02, .invalid0x03, .invalid0x04, .invalid0x05, .invalid0x06, .invalid0x07,
      .invalid0x08, .invalid0x09, .skipLf, .invalid0x0B, .invalid0x0C, .skipCr, .invalid0x0E, .invalid0x0F,
      .invalid0x10, .invalid0x11, .invalid0x12, .invalid0x13, .invalid0x14, .invalid0x15, .invalid0x16, .invalid0x17,
      .invalid0x18, .invalid0x19, .invalid0x1A, .invalid0x1B, .invalid0x1C, .invalid0x1D, .invalid0x1E, .invalid0x1F] : List Instr).map some := by
  decide

theorem test_decode_chars_1 :
    ([0x020, 0x021, 0x022, 0x023, 0x024, 0x025, 0x026, 0x027, 0x028, 0x029, 0x02A, 0x02B, 0x02C, 0x02D, 0x02E, 0x02F,
      0x030, 0x031, 0x032, 0x033, 0x034, 0x035, 0x036, 0x037, 0x038, 0x039, 0x03A, 0x03B, 0x03C, 0x03D, 0x03E, 0x03F] : List Nat).map (decodeTableWord 16) =
    ([.invalid0x20, .fillBlack, .invalid0x22, .invalid0x23, .invalid0x24, .invalid0x25, .invalid0x26, .invalid0x27,
      .invalid0x28, .invalid0x29, .invalid0x2A, .invalid0x2B, .fillWhite, .invalid0x2D, .invalid0x2E, .invalid0x2F,
      .dataDigit0, .dataDigit1, .dataDigit2, .dataDigit3, .dataDigit4, .dataDigit5, .dataDigit6, .dataDigit7,
      .dataDigit8, .dataDigit9, .repeatRow, .invalid0x3B, .invalid0x3C, .invalid0x3D, .invalid0x3E, .invalid0x3F] : List Instr).map some := by
  decide

theorem test_decode_chars_2 :
    ([0x040, 0x041, 0x042, 0x043, 0x044, 0x045, 0x046, 0x047, 0x048, 0x049, 0x04A, 0x04B, 0x04C, 0x04D, 0x04E, 0x04F,
      0x050, 0x051, 0x052, 0x053, 0x054, 0x055, 0x056, 0x057, 0x058, 0x059, 0x05A, 0x05B, 0x05C, 0x05D, 0x05E, 0x05F] : List Nat).map (decodeTableWord 16) =
    ([.invalid0x40, .dataUpperA, .dataUpperB, .dataUpperC, .dataUpperD, .dataUpperE, .dataUpperF, .multLowG,
      .multLowH, .multLowI, .multLowJ, .multLowK, .multLowL, .multLowM, .multLowN, .multLowO,
      .multLowP, .multLowQ, .multLowR, .multLowS, .multLowT, .multLowU, .multLowV, .multLowW,
      .multLowX, .multLowY, .invalid0x5A, .invalid0x5B, .invalid0x5C, .invalid0x5D, .invalid0x5E, .invalid0x5F] : List Instr).map some := by
  decide

theorem test_decode_chars_3 :
    ([0x060, 0x061, 0x062, 0x063, 0x064, 0x065, 0x066, 0x067, 0x068, 0x069, 0x06A, 0x06B, 0x06C, 0x06D, 0x06E, 0x06F,
      0x070, 0x071, 0x072, 0x073, 0x074, 0x075, 0x076, 0x077, 0x078, 0x079, 0x07A, 0x07B, 0x07C, 0x07D, 0x07E, 0x07F] : List Nat).map (decodeTableWord 16) =
    ([.invalid0x60, .dataLowerA, .dataLowerB, .dataLowerC, .dataLowerD, .dataLowerE, .dataLowerF, .multHighG,
      .multHighH, .multHighI, .multHighJ, .multHighK, .multHighL, .multHighM, .multHighN, .multHighO,
      .multHighP, .multHighQ, .multHighR, .multHighS, .multHighT, .multHighU, .multHighV, .multHighW,
      .multHighX, .multHighY, .multHighZ, .invalid0x7B, .invalid0x7C, .invalid0x7D, .invalid0x7E, .invalid0x7F] : List Instr).map some := by
  decide

theorem test_decode_chars_4 :
    ([0x080, 0x081, 0x082, 0x083, 0x084, 0x085, 0x086, 0x087, 0x088, 0x089, 0x08A, 0x08B, 0x08C, 0x08D, 0x08E, 0x08F,
      0x090, 0x091, 0x092, 0x093, 0x094, 0x095, 0x096, 0x097, 0x098, 0x099, 0x09A, 0x09B, 0x09C, 0x09D, 0x09E, 0x09F] : List Nat).map (decodeTableWord 16) =
    ([.invalid0x80, .invalid0x81, .invalid0x82, .invalid0x83, .invalid0x84, .invalid0x85, .invalid0x86, .invalid0x87,
      .invalid0x88, .invalid0x89, .invalid0x8A, .invalid0x8B, .invalid0x8C, .invalid0x8D, .invalid0x8E, .invalid0x8F,
      .invalid0x90, .invalid0x91, .invalid0x92, .invalid0x93, .invalid0x94, .invalid0x95, .invalid0x96, .invalid0x97,
      .invalid0x98, .invalid0x99, .invalid0x9A, .invalid0x9B, .invalid0x9C, .invalid0x9D, .invalid0x9E, .invalid0x9F] : List Instr).map some := by
  decide

theorem test_decode_chars_5 :
    ([0x0A0, 0x0A1, 0x0A2, 0x0A3, 0x0A4, 0x0A5, 0x0A6, 0x0A7, 0x0A8, 0x0A9, 0x0AA, 0x0AB, 0x0AC, 0x0AD, 0x0AE, 0x0AF,
      0x0B0, 0x0B1, 0x0B2, 0x0B3, 0x0B4, 0x0B5, 0x0B6, 0x0B7, 0x0B8, 0x0B9, 0x0BA, 0x0BB, 0x0BC, 0x0BD, 0x0BE, 0x0BF] : List Nat).map (decodeTableWord 16) =
    ([.invalid0xA0, .invalid0xA1, .invalid0xA2, .invalid0xA3, .invalid0xA4, .invalid0xA5, .invalid0xA6, .invalid0xA7,
      .invalid0xA8, .invalid0xA9, .invalid0xAA, .invalid0xAB, .invalid0xAC, .invalid0xAD, .invalid0xAE, .invalid0xAF,
      .invalid0xB0, .invalid0xB1, .invalid0xB2, .invalid0xB3, .invalid0xB4, .invalid0xB5, .invalid0xB6, .invalid0xB7,
      .invalid0xB8, .invalid0xB9, .invalid0xBA, .invalid0xBB, .invalid0xBC, .invalid0xBD, .invalid0xBE, .invalid0xBF] : List Instr).map some := by
  decide

theorem test_decode_chars_6 :
    ([0x0C0, 0x0C1, 0x0C2, 0x0C3, 0x0C4, 0x0C5, 0x0C6, 0x0C7, 0x0C8, 0x0C9, 0x0CA, 0x0CB, 0x0CC, 0x0CD, 0x0CE, 0x0CF,
      0x0D0, 0x0D1, 0x0D2, 0x0D3, 0x0D4, 0x0D5, 0x0D6, 0x0D7, 0x0D8, 0x0D9, 0x0DA, 0x0DB, 0x0DC, 0x0DD, 0x0DE, 0x0DF] : List Nat).map (decodeTableWord 16) =
    ([.invalid0xC0, .invalid0xC1, .invalid0xC2, .invalid0xC3, .invalid0xC4, .invalid0xC5, .invalid0xC6, .invalid0xC7,
      .invalid0xC8, .invalid0xC9, .invalid0xCA, .invalid0xCB, .invalid0xCC, .invalid0xCD, .invalid0xCE, .invalid0xCF,
      .invalid0xD0, .invalid0xD1, .invalid0xD2, .invalid0xD3, .invalid0xD4, .invalid0xD5, .invalid0xD6, .invalid0xD7,
      .invalid0xD8, .invalid0xD9, .invalid0xDA, .invalid0xDB, .invalid0xDC, .invalid0xDD, .invalid0xDE, .invalid0xDF] : List Instr).map some := by
  decide

theorem test_decode_chars_7 :
    ([0x0E0, 0x0E1, 0x0E2, 0x0E3, 0x0E4, 0x0E5, 0x0E6, 0x0E7, 0x0E8, 0x0E9, 0x0EA, 0x0EB, 0x0EC, 0x0ED, 0x0EE, 0x0EF,
      0x0F0, 0x0F1, 0x0F2, 0x0F3, 0x0F4, 0x0F5, 0x0F6, 0x0F7, 0x0F8, 0x0F9, 0x0FA, 0x0FB, 0x0FC, 0x0FD, 0x0FE, 0x0FF] : List Nat).map (decodeTableWord 16) =
    ([.invalid0xE0, .invalid0xE1, .invalid0xE2, .invalid0xE3, .invalid0xE4, .invalid0xE5, .invalid0xE6, .invalid0xE7,
      .invalid0xE8, .invalid0xE9, .invalid0xEA, .invalid0xEB, .invalid0xEC, .invalid0xED, .invalid0xEE, .invalid0xEF,
      .invalid0xF0, .invalid0xF1, .invalid0xF2, .invalid0xF3, .invalid0xF4, .invalid0xF5, .invalid0xF6, .invalid0xF7,
      .invalid0xF8, .invalid0xF9, .invalid0xFA, .invalid0xFB, .invalid0xFC, .invalid0xFD, .invalid0xFE, .invalid0xFF] : List Instr).map some := by
  decide

/-- R112: bit 8 set is the End beat, whatever bits 7:0 hold. -/
theorem test_decode_end :
    decode (.rldBeat 0b100000000#9) = .endBeat 0x00#8 ∧ decode (.rldBeat 0b101000111#9) = .endBeat 0x47#8 := by
  decide

/-- R110: bit 8 LAST, bits 7:0 DATA. -/
theorem test_decode_hex_byte :
    decode (.hexBeat 0b110100101#9) = .hexByte true 0xA5#8 ∧
      decode (.hexBeat 0b001011010#9) = .hexByte false 0x5A#8 := by decide

/-- R110, R122: bit 40 W, bits 39:32 ADDR, bits 31:0 DATA. -/
theorem test_decode_csr_read :
    decodeTableWord 48 0x01800000000 = some (.csrRead 0x18#8 0#32) ∧
      decodeTableWord 48 0x0FF12345678 = some (.csrRead 0xFF#8 0x12345678#32) := by decide

theorem test_decode_csr_write :
    decodeTableWord 48 0x10400000002 = some (.csrWrite 0x04#8 2#32) ∧
      decodeTableWord 48 0x13400000000 = some (.csrWrite 0x34#8 0#32) := by decide

theorem test_decode_lut :
    decodeTableWord 48 0x13000000015 = some (.lutEncode 21#32) ∧
      decodeTableWord 48 0x1380000007A = some (.lutDecode 0x7A#32) := by decide

/-- R122: which part of a CTRL write names its word (log 6). -/
theorem test_decode_ctrl_parts :
    decodeTableWord 48 0x10000000001 = some (.hexStart 1#32) ∧
      decodeTableWord 48 0x10000000002 = some (.hexStop 2#32) ∧
      decodeTableWord 48 0x10000000100 = some (.rldStart 0x100#32) ∧
      decodeTableWord 48 0x10000000200 = some (.rldAbort 0x200#32) := by decide

theorem test_decode_ctrl_both_units :
    decodeTableWord 48 0x10000000101 = some (.ctrlWrite 0x101#32) ∧
      decodeTableWord 48 0x10000000201 = some (.ctrlWrite 0x201#32) := by decide

/-- A number with a bit above its format is rejected, and by name. -/
theorem test_decode_rejects :
    decodeTableWord 16 0x200 = none ∧ decodeTableWord 48 0x20000000000 = none ∧ decodeTableWord 56 0 = none := by
  decide

theorem test_decode_rejects_by_name :
    (match decodeNumber .hexBeat 0x200 with | .ok _ => none | .error e => some e) =
      some (.bitsAboveFormat .hexBeat) := by decide

/-! WellFormed: for each check an ill-formed term that it refuses, and a well-formed neighbour. -/

/-- CTRL_WRITE as a row of its own has HEX_EN = 1 and a pulse. -/
theorem test_wf_ctrl_write :
    wellFormed (.ctrlWrite 0x100#32) = false ∧ wellFormed (.ctrlWrite 0x001#32) = false ∧
      wellFormed (.ctrlWrite 0x101#32) = true := by decide

theorem test_wf_csr_write :
    wellFormed (.csrWrite 0x00#8 1#32) = false ∧ wellFormed (.csrWrite 0x30#8 1#32) = false ∧
      wellFormed (.csrWrite 0x38#8 1#32) = false ∧ wellFormed (.csrWrite 0x34#8 1#32) = true := by decide

theorem test_wf_hex_start :
    wellFormed (.hexStart 0x000#32) = false ∧ wellFormed (.hexStart 0x201#32) = false ∧
      wellFormed (.hexStart 0x003#32) = true := by decide

theorem test_wf_hex_stop :
    wellFormed (.hexStop 0x001#32) = false ∧ wellFormed (.hexStop 0x100#32) = false ∧
      wellFormed (.hexStop 0x002#32) = true := by decide

theorem test_wf_rld_start :
    wellFormed (.rldStart 0x101#32) = false ∧ wellFormed (.rldStart 0x200#32) = false ∧
      wellFormed (.rldStart 0x300#32) = true := by decide

theorem test_wf_rld_abort :
    wellFormed (.rldAbort 0x201#32) = false ∧ wellFormed (.rldAbort 0x300#32) = false ∧
      wellFormed (.rldAbort 0x200#32) = true := by decide

set_option maxRecDepth 4000 in
/-- The class lists cover the 256 Char rows, with FILL_WHITE, FILL_BLACK and REPEAT (R113, R122). -/
theorem test_rows_cover :
    (Instr.multLowRows.length, Instr.multHighRows.length, Instr.dataDigitRows.length,
      Instr.dataLowerRows.length, Instr.dataUpperRows.length, Instr.invalidRows.length,
      Instr.skipRows.length) = (19, 20, 10, 6, 6, 190, 2) := by decide

/-! States. -/

/-- An RLD in RUN, its other fields as reset leaves them. -/
def rldRun (r height rows cursor counter : Nat) : State :=
  State.reset.withRld { RldUnit.reset 0 with
    state := .run
    rb := BitVec.ofNat 16 r
    height := BitVec.ofNat 32 height
    rows := BitVec.ofNat 32 rows
    cursor := BitVec.ofNat 17 cursor
    counter := BitVec.ofNat 17 counter
    hasPrev := decide (0 < rows) }

/-- A HEX unit in RUN, with HEX_EN set. -/
def hexRun (r idx : Nat) : State :=
  { State.reset with
    csr := { Csr.reset with hexEn := true, rowbytes := BitVec.ofNat 16 r }
    hex := { HexUnit.reset with state := .run, rb := BitVec.ofNat 16 r, idx := BitVec.ofNat 16 idx } }

/-- Registers ROWBYTES and TOTAL written. -/
def configured (r t : Nat) : State :=
  State.reset.withCsr { Csr.reset with rowbytes := BitVec.ofNat 16 r, total := BitVec.ofNat 32 t }

/-- A state with one turn to take. -/
def turn (t : Turn) (s : State) : State := { s with schedule := [t] }

/-- What a read of a register answers. -/
def readAt (a : BitVec 8) (s : State) : Option Reply := (nextOf (exec (.csrRead a 0#32) s)).bind State.reply

/-- RLD_STATUS after an instruction. -/
def statusAfter (i : Instr) (s : State) : Option Word32 := (nextOf (exec i s)).map (fun t => rldStatusView t.rld)

/-- The bytes an instruction leaves queued at the RLD, with their ROW_END flags. -/
def bytesAfter (i : Instr) (s : State) : Option (List (Nat × Bool)) :=
  (nextOf (exec i s)).map (fun t => t.rld.outq.map (fun b => (b.data.toNat, b.rowEnd)))

/-! Single steps, each from a vector of spec/95_test_vectors.md. -/

/-- RB_MAX is at least 1 (R8). -/
theorem one_le_rbMax : 1 ≤ Config.rbMax := by unfold Config.rbMax; omega

/-- B1: the second character of `09`, R = 1. -/
theorem test_data_digit : bytesAfter .dataDigit9 (rldRun 1 1 0 1 0 |>.withRld
    { (rldRun 1 1 0 1 0).rld with cur := [0x0#4] }) = some [(0x09, true)] := by decide

/-- B2: `a5`. -/
theorem test_data_lower : bytesAfter .dataDigit5 ((rldRun 1 1 0 1 0).withRld
    { (rldRun 1 1 0 1 0).rld with cur := [0xA#4] }) = some [(0xA5, true)] := by decide

/-- B4: `FF`, the first character: one nibble placed, no row yet. -/
theorem test_data_upper :
    (nextOf (exec .dataUpperF (rldRun 1 1 0 0 0))).map (fun t => (t.rld.cursor, t.rld.cur, t.rld.outq)) =
      some (1#17, [0xF#4], []) := by decide

/-- B5 and B6: `,` and `!`, R = 1. -/
theorem test_fill :
    bytesAfter .fillWhite (rldRun 1 1 0 0 0) = some [(0x00, true)] ∧
      bytesAfter .fillBlack (rldRun 1 1 0 0 0) = some [(0xFF, true)] := by decide

/-- B9: `J5`, R = 2: after `J` the counter is 4. -/
theorem test_mult_low :
    (nextOf (exec .multLowJ (rldRun 2 1 0 0 0))).map (fun t => (t.rld.counter, t.rld.bodycnt)) =
      some (4#17, 1#32) ∧
    bytesAfter .dataDigit5 (rldRun 2 1 0 0 4) = some [(0x55, false), (0x55, true)] := by decide

/-- B13: `g` at R = 10; E15: `G` after it. -/
theorem test_mult_high :
    (nextOf (exec .multHighG (rldRun 10 1 0 0 0))).map (fun t => t.rld.counter) = some 20#17 ∧
      statusAfter .multLowG (rldRun 10 1 0 0 20) = some 0x000A2033#32 := by decide

/-- B18: `:` after `!`, R = 1. -/
theorem test_repeat : bytesAfter .repeatRow ((rldRun 1 3 1 0 0).withRld
    { (rldRun 1 3 1 0 0).rld with prev := [0xF#4, 0xF#4] }) = some [(0xFF, true)] := by decide

/-- E4, E6, E7: the three checks of `:`. -/
theorem test_repeat_errors :
    statusAfter .repeatRow (rldRun 1 1 0 0 0) = some 0x00011123#32 ∧
      statusAfter .repeatRow (rldRun 1 2 1 0 1) = some 0x00011227#32 ∧
      statusAfter .repeatRow (rldRun 1 2 1 1 0) = some 0x00011327#32 := by decide

/-- B12: LF leaves the counter as it is. -/
theorem test_skip :
    (nextOf (exec .skipLf (rldRun 2 1 0 0 1))).map (fun t => (t.rld.counter, t.rld.bodycnt)) =
      some (1#17, 1#32) := by decide

/-- E1 and E3: `Z`, and `^` after the last row. -/
theorem test_invalid :
    statusAfter .invalid0x5A (rldRun 1 1 0 0 0) = some 0x00011023#32 ∧
      statusAfter .invalid0x5E (rldRun 1 1 1 0 0) = some 0x00011027#32 := by decide

/-- E16: `,` after the last row. -/
theorem test_extra_data : statusAfter .fillWhite (rldRun 1 1 1 0 0) = some 0x00012137#32 := by decide

/-- B1, E8, E9: the End beat. -/
theorem test_end :
    statusAfter (.endBeat 0#8) (rldRun 1 1 1 0 0) = some 0x00010006#32 ∧
      statusAfter (.endBeat 0#8) (rldRun 1 1 0 0 1) = some 0x00011423#32 ∧
      statusAfter (.endBeat 0#8) (rldRun 1 1 0 1 0) = some 0x00012233#32 := by decide

/-- B23: the second character of `a5` in pixel form. -/
theorem test_pixel_form : bytesAfter .dataDigit5 ((rldRun 1 1 0 1 0).withRld
    { (rldRun 1 1 0 1 0).rld with cur := [0xA#4], pix := true }) =
      some [(0x00, false), (0xFF, false), (0x00, false), (0xFF, false), (0xFF, false), (0x00, false),
        (0xFF, false), (0x00, true)] := by decide

/-- T2: R = 0. -/
theorem test_rld_start_r_zero : statusAfter (.rldStart 0x100#32) (configured 0 4) = some 0x00000113#32 := by decide

/-- T8: R = 1 with the largest TOTAL. -/
theorem test_rld_start :
    (nextOf (exec (.rldStart 0x100#32) (configured 1 4294967295))).map
      (fun t => (rldStatusView t.rld, t.rld.height)) = some (0x00010001#32, 0xFFFFFFFF#32) := by
  have h : ¬ Config.rbMax < 1 := Nat.not_lt.2 one_le_rbMax
  simp [exec, execRldStart, nextOf, ctrlWrite, configured, Machine.rldStart, h, State.withCsr, State.withHex,
    State.withRld, State.withReply, RldUnit.latch]
  decide

/-- I6: the abort keeps RB and PIXEL. -/
theorem test_rld_abort : statusAfter (.rldAbort 0x200#32) ((rldRun 1 1 0 0 0).withRld
    { (rldRun 1 1 0 0 0).rld with pix := true }) = some 0x00010008#32 := by decide

/-- H1 and H3: `A5` with LAST; `EF` in upper case. -/
theorem test_hex_byte :
    (nextOf (exec (.hexByte true 0xA5#8) (hexRun 1 0))).map (fun t => (t.hex.outq, t.hex.rows)) =
      some ([⟨0x61#8, false⟩, ⟨0x35#8, true⟩], 1#32) := by decide

/-- H6: LAST too early. -/
theorem test_hex_last_mismatch :
    (nextOf (exec (.hexByte true 0x00#8) (hexRun 2 0))).map (fun t => hexStatusView t.hex) =
      some 0x00003012#32 := by decide

/-- I5, its HEX part: HEX_STATUS after CTRL 0x3 with ROWBYTES = 1; H8: R = 0. -/
theorem test_hex_start :
    (nextOf (exec (.hexStart 3#32) (configured 1 1))).map (fun t => hexStatusView t.hex) = some 5#32 ∧
      (nextOf (exec (.hexStart 1#32) State.reset)).map (fun t => hexStatusView t.hex) = some 0x00000112#32 := by
  decide

/-- R183: three bytes into a row of four, the stop leaves IDLE with BYTE_IDX 0. -/
theorem test_hex_stop :
    (nextOf (exec (.hexStop 0#32) (hexRun 4 3))).map (fun t => hexStatusView t.hex) = some 0#32 ∧
      (nextOf (exec (.rldAbort 0x200#32) (hexRun 4 3))).map (fun t => hexStatusView t.hex) = some 0#32 := by
  decide

/-- I1 and I2: bus errors. -/
theorem test_bus_errors :
    readAt 0x02#8 State.reset = some (.read 0#32 true) ∧ readAt 0x40#8 State.reset = some (.read 0#32 true) ∧
      (nextOf (exec (.csrWrite 0x80#8 5#32) State.reset)).bind State.reply = some (.write true) := by decide

/-- I4: reserved bits dropped; I3: a write to an RO register ignored. -/
theorem test_csr_write :
    (nextOf (exec (.csrWrite 0x04#8 0x00010002#32) State.reset)).bind (readAt 0x04#8) =
      some (.read 0x00000002#32 false) ∧
    (nextOf (exec (.csrWrite 0x34#8 0x12345678#32) State.reset)).bind (readAt 0x34#8) =
      some (.read 0x80000000#32 false) := by decide

/-- R35: CTRL reads back bits 2:0 alone (I5, with no start). -/
theorem test_ctrl_write :
    (nextOf (exec (.ctrlWrite 0xFFFFFE07#32) State.reset)).bind (readAt 0x00#8) = some (.read 7#32 false) := by
  decide

/-- S-A21 and the count 0x0001_0015 of 2.1, whose upper bits are dropped. -/
theorem test_lut_encode :
    (nextOf (exec (.lutEncode 0x00010015#32) State.reset)).bind (readAt 0x34#8) =
      some (.read 0x00024767#32 false) := by decide

/-- S-Dz and `f` of 2.2. -/
theorem test_lut_decode :
    (nextOf (exec (.lutDecode 0x7A#32) State.reset)).bind (readAt 0x3C#8) = some (.read 0x80000190#32 false) ∧
      (nextOf (exec (.lutDecode 0x66#32) State.reset)).bind (readAt 0x3C#8) = some (.read 0#32 false) := by decide

/-- R91: with output queued a beat waits. -/
theorem test_input_hold :
    step (turn .rldIn { (rldRun 1 1 0 0 0).withRld { (rldRun 1 1 0 0 0).rld with outq := [⟨0x05#8, true⟩] } with
      rldIn := [0x030#9] }) =
    .next { (rldRun 1 1 0 0 0).withRld { (rldRun 1 1 0 0 0).rld with outq := [⟨0x05#8, true⟩] } with
      rldIn := [0x030#9] } := rfl

/-- `withFetchWord` presents the row's word so that the next step runs it. -/
theorem test_withFetchWord :
    (nextOf (step (State.reset.withFetchWord 16 0x02C))).map (fun t => t.rld.outq) = some [⟨0x00#8, true⟩] ∧
      (nextOf (step (State.reset.withFetchWord 48 0x10400000002))).map (fun t => t.csr.rowbytes) =
        some 2#16 := by decide

/-- S1, S2, S3 and S4: the reference compressor. -/
theorem test_refCompress :
    refCompress [hexRow false [0x00#8]] = [0x2C#8] ∧ refCompress [hexRow false [0xFF#8]] = [0x21#8] ∧
      refCompress [hexRow false [0xFF#8, 0xFF#8], hexRow false [0xFF#8, 0xFF#8]] = [0x21#8, 0x3A#8] ∧
      refCompress [hexRow false [0, 0, 0, 0, 0, 0, 0, 0, 0, 0, 0x0A#8, 0x5B#8]] =
        [0x67#8, 0x47#8, 0x30#8, 0x61#8, 0x35#8, 0x62#8] := by decide

/-! Witnesses: for each clause of each statement that has hypotheses, a concrete state and operands that meet
them, at a boundary of the clause's range where it has one. -/

theorem witness_EncodeThenDecodeGivesTheInstruction :
    wellFormed (.csrWrite 0x3F#8 0xFFFFFFFF#32) = true ∧ wellFormed .multHighZ = true := by decide

theorem witness_IgnoredBitsHaveNoEffect : (0x1FF#9).getLsbD 8 = true := by decide

/-- The host's access waits for nothing; the beats have a unit in RUN with an empty queue. -/
theorem witness_StepRunsThePresentedInput_host :
    { turn .host State.reset with hostIn := [0#41] }.schedule = [.host] ∧
      { turn .host State.reset with hostIn := [0#41] }.hostIn = [0#41] := by decide

theorem witness_StepRunsThePresentedInput_hexIn :
    { turn .hexIn (hexRun 1 0) with hexIn := [0x1A5#9] }.schedule = [.hexIn] ∧
      { turn .hexIn (hexRun 1 0) with hexIn := [0x1A5#9] }.hexIn = [0x1A5#9] ∧
      (hexRun 1 0).hex.state = .run ∧ (hexRun 1 0).hex.outq = [] := by decide

theorem witness_StepRunsThePresentedInput_rldIn :
    { turn .rldIn (rldRun 1 1 0 0 0) with rldIn := [0x02C#9] }.schedule = [.rldIn] ∧
      { turn .rldIn (rldRun 1 1 0 0 0) with rldIn := [0x02C#9] }.rldIn = [0x02C#9] ∧
      (rldRun 1 1 0 0 0).rld.state = .run ∧ (rldRun 1 1 0 0 0).rld.outq = [] := by decide

/-- A HEX unit in RUN with a character queued. -/
def hexQueued : State := (hexRun 1 0).withHex { (hexRun 1 0).hex with outq := [⟨0x35#8, true⟩] }

/-- An RLD in RUN with a byte queued. -/
def rldQueued : State := (rldRun 1 1 0 0 0).withRld { (rldRun 1 1 0 0 0).rld with outq := [⟨0x05#8, true⟩] }

/-- Held for the state, and held for the queue, at either unit; and an empty schedule. -/
theorem witness_HeldBeatStaysPresented :
    ((turn .hexIn State.reset).schedule = [.hexIn] ∧ (turn .hexIn State.reset).hex.state ≠ .run) ∧
      ((turn .hexIn hexQueued).schedule = [.hexIn] ∧ (turn .hexIn hexQueued).hex.outq ≠ []) ∧
      ((turn .rldIn State.reset).schedule = [.rldIn] ∧ (turn .rldIn State.reset).rld.state ≠ .run) ∧
      ((turn .rldIn rldQueued).schedule = [.rldIn] ∧ (turn .rldIn rldQueued).rld.outq ≠ []) ∧
      State.reset.schedule = [] := by decide

theorem witness_UnacceptedBeatChangesNothing :
    State.reset.hex.state ≠ .run ∧ hexQueued.hex.outq ≠ [] ∧ State.reset.rld.state ≠ .run ∧
      rldQueued.rld.outq ≠ [] := by decide

theorem witness_ConsumersTakeTheOldestBeat :
    ((turn .hexOut hexQueued).schedule = [.hexOut] ∧ (turn .hexOut hexQueued).hex.outq = [⟨0x35#8, true⟩]) ∧
      ((turn .rldOut rldQueued).schedule = [.rldOut] ∧ (turn .rldOut rldQueued).rld.outq = [⟨0x05#8, true⟩]) ∧
      ((turn .hexOut State.reset).schedule = [.hexOut] ∧ (turn .hexOut State.reset).hex.outq = []) ∧
      ((turn .rldOut State.reset).schedule = [.rldOut] ∧ (turn .rldOut State.reset).rld.outq = []) := by decide

theorem witness_ResetTurnClearsTheBlock : (turn .rst rldQueued).schedule = [.rst] := by decide

/-- A run of one row of one byte meets the invariant. -/
theorem rldRun_inv : RldInv (rldRun 1 1 0 0 0).rld := by
  have h := one_le_rbMax
  constructor
  · intro _; constructor <;> simp [rldRun, RldUnit.reset, h]
  all_goals simp [rldRun, RldUnit.reset, Detail.kind]

/-- Its states with one turn to take: the HEX unit and the registers are as reset leaves them. -/
theorem rldRun_turn_inv (t : Turn) (w : BitVec 9) :
    BlockInv { turn t (rldRun 1 1 0 0 0) with rldIn := [w] } := by
  constructor
  · constructor <;> simp [turn, rldRun, State.withRld, State.reset, HexUnit.reset, Csr.reset, Detail.kind]
  · exact rldRun_inv

theorem witness_EveryStepKeepsTheInvariants :
    BlockInv { turn .rldIn (rldRun 1 1 0 0 0) with rldIn := [0x02C#9] } ∧
      (nextOf (step { turn .rldIn (rldRun 1 1 0 0 0) with rldIn := [0x02C#9] })).isSome = true :=
  ⟨rldRun_turn_inv _ _, by decide⟩

/-- HEX_STATUS and RLD_STATUS read in a state that meets the invariant. -/
theorem witness_StatusFieldsStayInRange :
    BlockInv { turn .rldIn (rldRun 1 1 0 0 0) with rldIn := [0x02C#9] } ∧
      readAt 0x10#8 { turn .rldIn (rldRun 1 1 0 0 0) with rldIn := [0x02C#9] } = some (.read 0#32 false) ∧
      readAt 0x18#8 { turn .rldIn (rldRun 1 1 0 0 0) with rldIn := [0x02C#9] } = some (.read 0x00010001#32 false) :=
  ⟨rldRun_turn_inv _ _, by decide, by decide⟩

/-- The sum fills the row exactly: `H` at R = 1, and `g` at R = 10. -/
theorem witness_MultiplierAddsItsCount_fits :
    (Instr.multLowH, 2) ∈ Instr.multLowRows ∧ (Instr.multHighG, 20) ∈ Instr.multHighRows ∧
      (rldRun 1 1 0 0 0).rld.state = .run ∧ (rldRun 1 1 0 0 0).rld.outq = [] ∧
      (rldRun 1 1 0 0 0).rld.rows ≠ (rldRun 1 1 0 0 0).rld.height ∧
      (rldRun 1 1 0 0 0).rld.counter.toNat + 2 =
        2 * (rldRun 1 1 0 0 0).rld.rb.toNat - (rldRun 1 1 0 0 0).rld.cursor.toNat ∧
      (rldRun 10 1 0 0 0).rld.counter.toNat + 20 =
        2 * (rldRun 10 1 0 0 0).rld.rb.toNat - (rldRun 10 1 0 0 0).rld.cursor.toNat := by decide

/-- One above it: `H` after one nibble of a row of two. -/
theorem witness_MultiplierAddsItsCount_overflows :
    (Instr.multLowH, 2) ∈ Instr.multLowRows ∧ (rldRun 1 1 0 1 0).rld.state = .run ∧
      (rldRun 1 1 0 1 0).rld.outq = [] ∧ (rldRun 1 1 0 1 0).rld.rows ≠ (rldRun 1 1 0 1 0).rld.height ∧
      2 * (rldRun 1 1 0 1 0).rld.rb.toNat - (rldRun 1 1 0 1 0).rld.cursor.toNat + 1 =
        (rldRun 1 1 0 1 0).rld.counter.toNat + 2 := by decide

theorem witness_ExtraDataAfterTheLastRow :
    Instr.fillWhite ∈ bodyRows ∧ (rldRun 1 1 1 0 0).rld.state = .run ∧ (rldRun 1 1 1 0 0).rld.outq = [] ∧
      (rldRun 1 1 1 0 0).rld.rows = (rldRun 1 1 1 0 0).rld.height := by decide

theorem witness_InvalidCharacterRaisesBadChar :
    Instr.invalid0xFF ∈ Instr.invalidRows ∧ (rldRun 1 1 1 0 0).rld.state = .run ∧
      (rldRun 1 1 1 0 0).rld.outq = [] := by decide

theorem witness_SkipOnlyCountsTheCharacter :
    Instr.skipLf ∈ Instr.skipRows ∧ Instr.skipCr ∈ Instr.skipRows ∧ (rldRun 2 1 0 0 1).rld.state = .run ∧
      (rldRun 2 1 0 0 1).rld.outq = [] := by decide

/-- The first nibble of a row of two: one short of the row's end. -/
theorem witness_DataPlacesItsRun_inside :
    (Instr.dataDigit9, 0x9#4) ∈ Instr.dataDigitRows ∧ (Instr.dataLowerF, 0xF#4) ∈ Instr.dataLowerRows ∧
      (Instr.dataUpperA, 0xA#4) ∈ Instr.dataUpperRows ∧ (rldRun 1 1 0 0 0).rld.state = .run ∧
      (rldRun 1 1 0 0 0).rld.outq = [] ∧ (rldRun 1 1 0 0 0).rld.rows ≠ (rldRun 1 1 0 0 0).rld.height ∧
      (rldRun 1 1 0 0 0).rld.cursor.toNat + max (rldRun 1 1 0 0 0).rld.counter.toNat 1 + 1 =
        2 * (rldRun 1 1 0 0 0).rld.rb.toNat := by decide

/-- A run of two from the start of a row of two. -/
theorem witness_DataPlacesItsRun_completes :
    (Instr.dataDigit9, 0x9#4) ∈ Instr.dataDigitRows ∧ (rldRun 1 1 0 0 2).rld.state = .run ∧
      (rldRun 1 1 0 0 2).rld.outq = [] ∧ (rldRun 1 1 0 0 2).rld.rows ≠ (rldRun 1 1 0 0 2).rld.height ∧
      (rldRun 1 1 0 0 2).rld.cursor.toNat + max (rldRun 1 1 0 0 2).rld.counter.toNat 1 =
        2 * (rldRun 1 1 0 0 2).rld.rb.toNat := by decide

/-- A run of three in a row of two: no run reaches this state (R277). -/
theorem witness_DataPlacesItsRun_overflows :
    (Instr.dataDigit9, 0x9#4) ∈ Instr.dataDigitRows ∧ (rldRun 1 1 0 0 3).rld.state = .run ∧
      (rldRun 1 1 0 0 3).rld.outq = [] ∧ (rldRun 1 1 0 0 3).rld.rows ≠ (rldRun 1 1 0 0 3).rld.height ∧
      2 * (rldRun 1 1 0 0 3).rld.rb.toNat + 1 =
        (rldRun 1 1 0 0 3).rld.cursor.toNat + max (rldRun 1 1 0 0 3).rld.counter.toNat 1 := by decide

theorem witness_FillCompletesTheRow :
    ((rldRun 1 1 0 1 0).rld.state = .run ∧ (rldRun 1 1 0 1 0).rld.outq = [] ∧
      (rldRun 1 1 0 1 0).rld.rows ≠ (rldRun 1 1 0 1 0).rld.height ∧ (rldRun 1 1 0 1 0).rld.counter = 0) ∧
    ((rldRun 1 1 0 0 1).rld.state = .run ∧ (rldRun 1 1 0 0 1).rld.outq = [] ∧
      (rldRun 1 1 0 0 1).rld.rows ≠ (rldRun 1 1 0 0 1).rld.height ∧ (rldRun 1 1 0 0 1).rld.counter ≠ 0) := by
  decide

/-- In the order of the clauses: no previous row, a multiplier pending, part of the row placed, none of these. -/
theorem witness_RepeatCompletesThePreviousRow :
    ((rldRun 1 2 0 0 0).rld.state = .run ∧ (rldRun 1 2 0 0 0).rld.outq = [] ∧
      (rldRun 1 2 0 0 0).rld.rows ≠ (rldRun 1 2 0 0 0).rld.height ∧ (rldRun 1 2 0 0 0).rld.hasPrev = false) ∧
    ((rldRun 1 2 1 0 1).rld.rows ≠ (rldRun 1 2 1 0 1).rld.height ∧ (rldRun 1 2 1 0 1).rld.hasPrev = true ∧
      (rldRun 1 2 1 0 1).rld.counter ≠ 0) ∧
    ((rldRun 1 2 1 1 0).rld.rows ≠ (rldRun 1 2 1 1 0).rld.height ∧ (rldRun 1 2 1 1 0).rld.hasPrev = true ∧
      (rldRun 1 2 1 1 0).rld.counter = 0 ∧ (rldRun 1 2 1 1 0).rld.cursor ≠ 0) ∧
    ((rldRun 1 2 1 0 0).rld.rows ≠ (rldRun 1 2 1 0 0).rld.height ∧ (rldRun 1 2 1 0 0).rld.hasPrev = true ∧
      (rldRun 1 2 1 0 0).rld.counter = 0 ∧ (rldRun 1 2 1 0 0).rld.cursor = 0) := by decide

theorem witness_EndBeatChecksAndEnds :
    (rldRun 1 1 1 0 0).rld.state = .run ∧ (rldRun 1 1 1 0 0).rld.outq = [] := by decide

/-- A start that fails, R = 0, and one that succeeds, R = 1 and T = 1: then no check of R241 applies. -/
theorem witness_RldStartLatchesAndChecks :
    (0x100#32).getLsbD 8 = true ∧ (configured 0 1).csr.rowbytes.toNat = 0 ∧
      (configured 1 1).csr.rowbytes.toNat ≠ 0 ∧ (configured 1 1).csr.rowbytes.toNat ≤ Config.rbMax ∧
      (configured 1 1).csr.total.toNat ≠ 0 ∧
      (configured 1 1).csr.total.toNat % (configured 1 1).csr.rowbytes.toNat = 0 :=
  ⟨by decide, by decide, by decide, one_le_rbMax, by decide, by decide⟩

theorem witness_RldAbortGoesToIdle : (0x200#32).getLsbD 8 = false ∧ (0x200#32).getLsbD 9 = true := by decide

theorem witness_StartOverridesAbort : (0x300#32).getLsbD 8 = true ∧ (0x300#32).getLsbD 9 = true := by decide

/-- A start, and a write with HEX_EN already 1. -/
theorem witness_HexStartLatchesAndChecks :
    (0x1#32).getLsbD 0 = true ∧ State.reset.csr.hexEn = false ∧ (hexRun 1 0).csr.hexEn = true := by decide

/-- A write that stops, and ones that stop and start or abort the RLD. -/
theorem witness_HexStopGoesToIdle :
    (hexRun 4 3).csr.hexEn = true ∧ (0x0#32).getLsbD 0 = false ∧ (0x100#32).getLsbD 0 = false ∧
      (0x200#32).getLsbD 0 = false := by decide

/-- Row length 2: the first byte without LAST and the last with it, and the other way round. -/
theorem witness_HexByteEmitsTwoCharacters :
    (hexRun 2 0).hex.state = .run ∧ (hexRun 2 0).hex.outq = [] ∧
      false = decide ((hexRun 2 0).hex.idx.toNat + 1 = (hexRun 2 0).hex.rb.toNat) ∧
      true ≠ decide ((hexRun 2 0).hex.idx.toNat + 1 = (hexRun 2 0).hex.rb.toNat) ∧
      true = decide ((hexRun 2 1).hex.idx.toNat + 1 = (hexRun 2 1).hex.rb.toNat) ∧
      false ≠ decide ((hexRun 2 1).hex.idx.toNat + 1 = (hexRun 2 1).hex.rb.toNat) := by decide

theorem witness_HexRowComesOutWhole :
    (hexRun 2 0).hex.state = .run ∧ (hexRun 2 0).hex.outq = [] ∧ (hexRun 2 0).hex.idx = 0 ∧
      1 ≤ ([0x12#8, 0xEF#8] : List Byte).length ∧
      ([0x12#8, 0xEF#8] : List Byte).length = (hexRun 2 0).hex.rb.toNat := by decide

/-- Misaligned at either end, the first unmapped address, and the first and the last mapped ones. -/
theorem witness_BusErrorsChangeNothing :
    ((0x01#8).toNat % 4 ≠ 0 ∧ (0x3F#8).toNat % 4 ≠ 0 ∧ 0x40 ≤ (0x40#8).toNat) ∧
      ¬ ((0x00#8).toNat % 4 ≠ 0 ∨ 0x40 ≤ (0x00#8).toNat) ∧
      ¬ ((0x3C#8).toNat % 4 ≠ 0 ∨ 0x40 ≤ (0x3C#8).toNat) := by decide

theorem witness_RegisterWritesStoreTheirFields :
    (0x06#8).toNat % 4 ≠ 0 ∧ 0x40 ≤ (0x40#8).toNat := by decide

/-- HEX_EN unchanged, and both pulse bits 0, in a CTRL write after reset. -/
theorem witness_CtrlWriteStoresItsBits :
    (0x4#32).getLsbD 0 = State.reset.csr.hexEn ∧ (0x4#32).getLsbD 8 = false ∧ (0x4#32).getLsbD 9 = false := by
  decide

/-- Both ends of the range of counts. -/
theorem witness_AlutTokensAddUp :
    1 ≤ (1#16).toNat ∧ (1#16).toNat ≤ 400 ∧ 1 ≤ (400#16).toNat ∧ (400#16).toNat ≤ 400 ∧
      alutEncode 400#16 = alutEncode 400#16 := by decide

theorem witness_AlutDecodeIsInjective : (alutDecode 0x47#8).isSome = true := by decide

/-! Witnesses for the rules over every step: a step that the rule speaks of. -/

/-- A step, and whether a next state of it has a property. -/
def stepHas (s : State) (p : State → Bool) : Bool := (nextOf (step s)).any p

/-- One host access, presented and given the next turn. -/
def access (w : BitVec 41) (s : State) : State := { turn .host s with hostIn := [w] }

theorem witness_RldStateMovesOnlyAsListed :
    stepHas (access 0x10000000200#41 (rldRun 1 1 0 0 0)) (fun t => t.rld.state = .idle) = true ∧
      stepHas { turn .rldIn (rldRun 1 1 1 0 0) with rldIn := [0x100#9] } (fun t => t.rld.state = .done) = true := by
  decide

/-- A HEX unit in ERROR, as the HEX_LAST_MISMATCH of R184 leaves it. -/
def hexError : State := (hexRun 2 0).withHex ((hexRun 2 0).hex.raise .hexLastMismatch)

theorem witness_HexErrorIsLeftByStopOrReset :
    HexInv (access 0x10000000000#41 hexError).csr (access 0x10000000000#41 hexError).hex ∧
      (access 0x10000000000#41 hexError).hex.state = .error ∧
      stepHas (access 0x10000000000#41 hexError) (fun t => t.hex.state = .idle) = true := by
  refine ⟨?_, by decide, by decide⟩
  constructor <;> simp [access, turn, hexError, hexRun, HexUnit.raise, State.withHex, Detail.kind]

theorem witness_RldConfigurationIsLatched :
    stepHas (access 0x10000000100#41 (configured 0 1 |>.withRld (rldRun 1 1 0 0 0).rld))
      (fun t => t.rld.rb ≠ 1) = true := by decide

theorem witness_HexConfigurationIsLatched :
    stepHas (access 0x10000000001#41 (configured 1 1)) (fun t => t.hex.rb ≠ 0) = true := by decide

/-- Outside RUN, with output queued; and a run that has ended. -/
theorem witness_RldOutsideRunIsStable :
    (turn .rldOut (rldQueued.withRld { rldQueued.rld with state := .done })).rld.state ≠ .run ∧
      (nextOf (step (turn .rldOut (rldQueued.withRld { rldQueued.rld with state := .done })))).isSome = true ∧
      rldRunEnded (turn .rldIn ((rldRun 1 1 1 0 0).withRld { (rldRun 1 1 1 0 0).rld with state := .done })) = true := by
  decide

theorem witness_OutputQueuesAreFirstInFirstOut :
    stepHas { turn .rldIn (rldRun 1 1 0 0 0) with rldIn := [0x02C#9] } (fun t => t.rld.outq ≠ []) = true ∧
      stepHas { turn .hexIn (hexRun 1 0) with hexIn := [0x1A5#9] } (fun t => t.hex.outq ≠ []) = true ∧
      stepHas (turn .rldOut rldQueued) (fun t => t.rld.outq = []) = true ∧
      stepHas (turn .hexOut hexQueued) (fun t => t.hex.outq = []) = true := by decide

/-- The last nibble of a row of two is placed; element 2 is the first one beyond it. -/
theorem witness_ElementsBeyondTheRowStay :
    (∀ ts, { turn .rldIn (rldRun 1 1 0 0 2) with rldIn := [0x039#9] }.schedule ≠ .rst :: ts) ∧
      stepHas { turn .rldIn (rldRun 1 1 0 0 2) with rldIn := [0x039#9] } (fun t => t.rld.rows = 1) = true ∧
      2 * (rldRun 1 1 0 0 2).rld.rb.toNat ≤ 2 :=
  ⟨(fun ts h => by cases h), by decide, by decide⟩

/-- Two states that agree on one unit and not on the other. -/
theorem witness_UnitsDoNotInterfere :
    (rldRun 1 1 0 0 0).rld = ((hexRun 2 1).withRld (rldRun 1 1 0 0 0).rld).rld ∧
      (hexRun 1 0).hex = ((rldRun 2 1 0 0 0).withHex (hexRun 1 0).hex).hex ∧
      (rldRun 1 1 0 0 0).hex ≠ (hexRun 2 1).hex := by decide

/-! Witnesses for the round trips: one row of one byte, decoded by a run of R = 1 and T = 1. -/

theorem witness_JoinedBodyDecodesToItsRows :
    ([[0xA5#8]] : List (List Byte)) ≠ [] ∧
      (∀ row ∈ ([[0xA5#8]] : List (List Byte)), row.length = (configured 1 1).csr.rowbytes.toNat) ∧
      1 ≤ (configured 1 1).csr.rowbytes.toNat ∧ (configured 1 1).csr.rowbytes.toNat ≤ Config.rbMax ∧
      (configured 1 1).csr.total.toNat =
        (configured 1 1).csr.rowbytes.toNat * ([[0xA5#8]] : List (List Byte)).length ∧
      (configured 1 1).csr.bodylen = 0 ∧ (0x100#32).getLsbD 8 = true ∧ (0x100#32).getLsbD 2 = false ∧
      (configured 1 1).rld.outq = [] :=
  ⟨by decide, by decide, by decide, one_le_rbMax, by decide, by decide, by decide, by decide, by decide⟩

/-- The other round trip has the same hypotheses. -/
theorem witness_CompressedBodyDecodesToItsRows :
    ([[0xA5#8]] : List (List Byte)) ≠ [] ∧
      (∀ row ∈ ([[0xA5#8]] : List (List Byte)), row.length = (configured 1 1).csr.rowbytes.toNat) ∧
      1 ≤ (configured 1 1).csr.rowbytes.toNat ∧ (configured 1 1).csr.rowbytes.toNat ≤ Config.rbMax ∧
      (configured 1 1).csr.total.toNat =
        (configured 1 1).csr.rowbytes.toNat * ([[0xA5#8]] : List (List Byte)).length ∧
      (configured 1 1).csr.bodylen = 0 ∧ (0x100#32).getLsbD 8 = true ∧ (0x100#32).getLsbD 2 = false ∧
      (configured 1 1).rld.outq = [] :=
  ⟨by decide, by decide, by decide, one_le_rbMax, by decide, by decide, by decide, by decide, by decide⟩

end Sys2Proof.Tests
end

section
/-! What an instruction and a step can do to the registers and the units, said once (R93, R122). -/

namespace Sys2Proof.Machine

/-! What an instruction does (R122): the rows of the opcode table fall into a few shared operations. -/

/-- The operations a beat at the RLD can have: one for each class of R113, and the End beat of R246. -/
inductive RldOp : (RldUnit → RldUnit) → Prop
  | invalid : RldOp charInvalid
  | skip : RldOp charSkip
  | mult (v : Nat) : RldOp (charMult v)
  | data (n : Nibble) : RldOp (charData n)
  | fill (n : Nibble) : RldOp (charFill n)
  | repeatRow : RldOp charRepeat
  | endBeat : RldOp endBody

/-- The meanings an instruction can have: a beat at one of the units, or an access of the host. -/
inductive Meaning : (State → Host.Outcome State Fault Refusal) → Prop
  | rld {f : RldUnit → RldUnit} (op : RldOp f) : Meaning (rldBeat f)
  | hex (last : Bool) (b : Byte) : Meaning (hexBeat (hexByte last b))
  | read (a : BitVec 8) : Meaning (fun s => .next (csrRead a s))
  | write (a : BitVec 8) (d : Word32) : Meaning (fun s => .next (hostWrite a d s))

/-- Every row of the opcode table has one of these meanings, the five names of a CTRL write that of a host write
at 0x00 (log 6). -/
theorem exec_meaning : ∀ i : Instr, Meaning (exec i)
  | .invalid0x00 | .invalid0x01 | .invalid0x02 | .invalid0x03 | .invalid0x04 | .invalid0x05 | .invalid0x06 | .invalid0x07
  | .invalid0x08 | .invalid0x09 | .invalid0x0B | .invalid0x0C | .invalid0x0E | .invalid0x0F | .invalid0x10 | .invalid0x11
  | .invalid0x12 | .invalid0x13 | .invalid0x14 | .invalid0x15 | .invalid0x16 | .invalid0x17 | .invalid0x18 | .invalid0x19
  | .invalid0x1A | .invalid0x1B | .invalid0x1C | .invalid0x1D | .invalid0x1E | .invalid0x1F | .invalid0x20 | .invalid0x22
  | .invalid0x23 | .invalid0x24 | .invalid0x25 | .invalid0x26 | .invalid0x27 | .invalid0x28 | .invalid0x29 | .invalid0x2A
  | .invalid0x2B | .invalid0x2D | .invalid0x2E | .invalid0x2F | .invalid0x3B | .invalid0x3C | .invalid0x3D | .invalid0x3E
  | .invalid0x3F | .invalid0x40 | .invalid0x5A | .invalid0x5B | .invalid0x5C | .invalid0x5D | .invalid0x5E | .invalid0x5F
  | .invalid0x60 | .invalid0x7B | .invalid0x7C | .invalid0x7D | .invalid0x7E | .invalid0x7F | .invalid0x80 | .invalid0x81
  | .invalid0x82 | .invalid0x83 | .invalid0x84 | .invalid0x85 | .invalid0x86 | .invalid0x87 | .invalid0x88 | .invalid0x89
  | .invalid0x8A | .invalid0x8B | .invalid0x8C | .invalid0x8D | .invalid0x8E | .invalid0x8F | .invalid0x90 | .invalid0x91
  | .invalid0x92 | .invalid0x93 | .invalid0x94 | .invalid0x95 | .invalid0x96 | .invalid0x97 | .invalid0x98 | .invalid0x99
  | .invalid0x9A | .invalid0x9B | .invalid0x9C | .invalid0x9D | .invalid0x9E | .invalid0x9F | .invalid0xA0 | .invalid0xA1
  | .invalid0xA2 | .invalid0xA3 | .invalid0xA4 | .invalid0xA5 | .invalid0xA6 | .invalid0xA7 | .invalid0xA8 | .invalid0xA9
  | .invalid0xAA | .invalid0xAB | .invalid0xAC | .invalid0xAD | .invalid0xAE | .invalid0xAF | .invalid0xB0 | .invalid0xB1
  | .invalid0xB2 | .invalid0xB3 | .invalid0xB4 | .invalid0xB5 | .invalid0xB6 | .invalid0xB7 | .invalid0xB8 | .invalid0xB9
  | .invalid0xBA | .invalid0xBB | .invalid0xBC | .invalid0xBD | .invalid0xBE | .invalid0xBF | .invalid0xC0 | .invalid0xC1
  | .invalid0xC2 | .invalid0xC3 | .invalid0xC4 | .invalid0xC5 | .invalid0xC6 | .invalid0xC7 | .invalid0xC8 | .invalid0xC9
  | .invalid0xCA | .invalid0xCB | .invalid0xCC | .invalid0xCD | .invalid0xCE | .invalid0xCF | .invalid0xD0 | .invalid0xD1
  | .invalid0xD2 | .invalid0xD3 | .invalid0xD4 | .invalid0xD5 | .invalid0xD6 | .invalid0xD7 | .invalid0xD8 | .invalid0xD9
  | .invalid0xDA | .invalid0xDB | .invalid0xDC | .invalid0xDD | .invalid0xDE | .invalid0xDF | .invalid0xE0 | .invalid0xE1
  | .invalid0xE2 | .invalid0xE3 | .invalid0xE4 | .invalid0xE5 | .invalid0xE6 | .invalid0xE7 | .invalid0xE8 | .invalid0xE9
  | .invalid0xEA | .invalid0xEB | .invalid0xEC | .invalid0xED | .invalid0xEE | .invalid0xEF | .invalid0xF0 | .invalid0xF1
  | .invalid0xF2 | .invalid0xF3 | .invalid0xF4 | .invalid0xF5 | .invalid0xF6 | .invalid0xF7 | .invalid0xF8 | .invalid0xF9
  | .invalid0xFA | .invalid0xFB | .invalid0xFC | .invalid0xFD | .invalid0xFE | .invalid0xFF => .rld .invalid
  | .skipLf | .skipCr => .rld .skip
  | .multLowG | .multLowH | .multLowI | .multLowJ | .multLowK | .multLowL | .multLowM | .multLowN
  | .multLowO | .multLowP | .multLowQ | .multLowR | .multLowS | .multLowT | .multLowU | .multLowV
  | .multLowW | .multLowX | .multLowY | .multHighG | .multHighH | .multHighI | .multHighJ | .multHighK
  | .multHighL | .multHighM | .multHighN | .multHighO | .multHighP | .multHighQ | .multHighR | .multHighS
  | .multHighT | .multHighU | .multHighV | .multHighW | .multHighX | .multHighY | .multHighZ => .rld (.mult _)
  | .dataDigit0 | .dataDigit1 | .dataDigit2 | .dataDigit3 | .dataDigit4 | .dataDigit5 | .dataDigit6 | .dataDigit7
  | .dataDigit8 | .dataDigit9 | .dataUpperA | .dataUpperB | .dataUpperC | .dataUpperD | .dataUpperE | .dataUpperF
  | .dataLowerA | .dataLowerB | .dataLowerC | .dataLowerD | .dataLowerE | .dataLowerF => .rld (.data _)
  | .fillWhite | .fillBlack => .rld (.fill _)
  | .repeatRow => .rld .repeatRow
  | .endBeat _ => .rld .endBeat
  | .hexByte last b => .hex last b
  | .csrRead a _ => .read a
  | .csrWrite a d => .write a d
  | .lutEncode d => .write 0x30#8 d
  | .lutDecode d => .write 0x38#8 d
  | .ctrlWrite d | .hexStart d | .hexStop d | .rldStart d | .rldAbort d => .write 0x00#8 d

/-- What one step does to the registers and the two units of `s`: one of these, and no more. -/
inductive StepEffect (s : State) : Csr → HexUnit → RldUnit → Prop
  | none : StepEffect s s.csr s.hex s.rld
  | rldBeat {f : RldUnit → RldUnit} (op : RldOp f) (hrun : s.rld.state = .run) (hq : s.rld.outq = []) :
      StepEffect s s.csr s.hex (f s.rld)
  | hexBeat (last : Bool) (b : Byte) (hrun : s.hex.state = .run) (hq : s.hex.outq = []) :
      StepEffect s s.csr (hexByte last b s.hex) s.rld
  | store (a : BitVec 8) (d : Word32) : StepEffect s (csrStore a d s.csr) s.hex s.rld
  | ctrl (d : Word32) : StepEffect s (ctrlWrite d s).csr (ctrlWrite d s).hex (ctrlWrite d s).rld
  | hexOut : StepEffect s s.csr { s.hex with outq := s.hex.outq.tail } s.rld
  | rldOut : StepEffect s s.csr s.hex { s.rld with outq := s.rld.outq.tail }
  | reset (ts : List Turn) (hs : s.schedule = .rst :: ts) :
      StepEffect s Csr.reset HexUnit.reset (RldUnit.reset (s.rld.epoch + 1))

/-- A CTRL write reads and writes the registers and the units alone. -/
theorem ctrlWrite_units_congr (d : Word32) {s u : State} (hc : u.csr = s.csr) (hh : u.hex = s.hex)
    (hr : u.rld = s.rld) : (ctrlWrite d u).csr = (ctrlWrite d s).csr ∧
      (ctrlWrite d u).hex = (ctrlWrite d s).hex ∧ (ctrlWrite d u).rld = (ctrlWrite d s).rld := by
  simp [hc, hh, hr]

/-- An instruction run in a state with the registers and units of `s` has one of the effects on them. -/
theorem exec_effect {i : Instr} {s u t : State} (h : exec i u = .next t) (hc : u.csr = s.csr)
    (hh : u.hex = s.hex) (hr : u.rld = s.rld) : StepEffect s t.csr t.hex t.rld := by
  have idle : StepEffect s u.csr u.hex u.rld := by rw [hc, hh, hr]; exact .none
  have hm := exec_meaning i
  generalize exec i = m at hm h
  cases hm with
  | rld op =>
    rcases rldBeat_cases _ _ _ h with ⟨ready, rfl⟩ | ⟨-, rfl⟩
    · obtain ⟨hrun, hq⟩ := (rldInReady_iff u).1 ready
      simp only [State.withRld_csr, State.withRld_hex, State.withRld_rld]
      rw [hr] at hrun hq
      rw [hc, hh, hr]
      exact .rldBeat op hrun hq
    · exact idle
  | hex last b =>
    rcases hexBeat_cases _ _ _ h with ⟨ready, rfl⟩ | ⟨-, rfl⟩
    · obtain ⟨hrun, hq⟩ := (hexInReady_iff u).1 ready
      simp only [State.withHex_csr, State.withHex_hex, State.withHex_rld]
      rw [hh] at hrun hq
      rw [hc, hh, hr]
      exact .hexBeat last b hrun hq
    · exact idle
  | read a => cases h; exact idle
  | write a d =>
    cases h
    rcases hostWrite_cases a d u with ⟨-, hw⟩ | ⟨-, -, hw⟩ | ⟨-, -, hw⟩ <;> rw [hw]
    · obtain ⟨hc', hh', hr'⟩ := ctrlWrite_units_congr d hc hh hr
      rw [hc', hh', hr']
      exact .ctrl d
    · exact idle
    · simp only [State.withReply_csr, State.withReply_hex, State.withReply_rld, State.withCsr_csr,
        State.withCsr_hex, State.withCsr_rld]
      rw [hc, hh, hr]
      exact .store a d

theorem step_effect {s t : State} (h : step s = .next t) : StepEffect s t.csr t.hex t.rld := by
  rcases step_cases s with ⟨i, u, -, hstep, hc, hh, hr, -⟩ | ⟨ts, -, hstep⟩ | ⟨ts, -, hstep⟩ |
    ⟨ts, hs, hstep⟩ | ⟨ts, hstep⟩
  · exact exec_effect (hstep.symm.trans h) hc hh hr
  all_goals obtain rfl : _ = t := Host.Outcome.next.inj (hstep.symm.trans h)
  · exact .hexOut
  · exact .rldOut
  · exact .reset ts hs
  · exact .none

end Sys2Proof.Machine
end

section
/-! Every step keeps the invariant of the block (R57, R247, R331, R332). -/

namespace Sys2Proof.Machine

/-! The invariant of the HEX unit (R57, R182..R184). -/

theorem hexInv_reset : HexInv Csr.reset HexUnit.reset := by
  constructor <;> simp [Csr.reset, HexUnit.reset, Detail.kind]

/-- The invariant speaks of HEX_EN alone among the registers, and of no queue. -/
theorem HexInv.congr {c c' : Csr} {u : HexUnit} (h : HexInv c u) (hc : c'.hexEn = c.hexEn)
    (q : List OutBeat) : HexInv c' { u with outq := q } where
  run hs := ⟨(h.run hs).rb_pos, (h.run hs).idx_lt⟩
  enabled := by rw [hc]; exact h.enabled
  idle_idx := h.idle_idx
  err_kind := h.err_kind
  own_detail := h.own_detail
  run_err := h.run_err
  error_err := h.error_err

/-- HEX_START, successful or not, from any state of the unit (R182). -/
theorem hexInv_hexStart {c : Csr} (hc : c.hexEn = true) (u : HexUnit) : HexInv c (hexStart c u) := by
  rcases hexStart_cases c u with ⟨-, h⟩ | ⟨hR, h⟩ <;> rw [h]
  · constructor <;> simp [hc, Detail.kind]
  · have hpos : 0 < c.rowbytes.toNat := Nat.pos_of_ne_zero (by simpa using BitVec.toNat_ne.1 hR)
    constructor <;> simp [hc, Detail.kind]
    exact ⟨hpos, hpos⟩

/-- HEX_STOP (R183). -/
theorem HexInv.hexStop {c c' : Csr} {u : HexUnit} (h : HexInv c u) (hc : c'.hexEn = false) :
    HexInv c' (hexStop u) := by
  constructor <;> simp [hc, h.err_kind, h.own_detail]

/-- HEX_BYTE in RUN: an error, the last byte of a row, or one more byte of it (R184). -/
theorem HexInv.hexByte {c : Csr} {u : HexUnit} (h : HexInv c u) (hrun : u.state = .run) (last : Bool)
    (b : Byte) : HexInv c (hexByte last b u) := by
  obtain ⟨rb_pos, idx_lt⟩ := h.run hrun
  have hen : c.hexEn = true := h.enabled.2 (by simp [hrun])
  have hrb := u.rb.isLt
  rcases hexByte_cases last b u with ⟨-, he⟩ | ⟨-, hlast, he⟩ | ⟨-, hmid, he⟩ <;> rw [he]
  · constructor <;> simp [hen, Detail.kind]
  · constructor <;> simp [hrun, hen, h.run_err hrun, ← h.err_kind, h.own_detail]
    constructor <;> simp <;> omega
  · constructor <;> simp [hrun, hen, h.run_err hrun, ← h.err_kind, h.own_detail]
    constructor <;> simp [BitVec.toNat_add] <;> omega

/-- A CTRL write starts, stops or leaves the HEX unit, as HEX_EN changes (R302). -/
theorem HexInv.ctrlWrite {s : State} (h : HexInv s.csr s.hex) (d : Word32) :
    HexInv (ctrlWrite d s).csr (ctrlWrite d s).hex := by
  rw [ctrlWrite_hex]
  split
  next hstart => exact hexInv_hexStart hstart.2 _
  next hstart =>
    split
    next hstop => exact h.hexStop hstop.2
    next hstop =>
      refine h.congr ?_ s.hex.outq
      show d.getLsbD 0 = s.csr.hexEn
      cases hen : s.csr.hexEn with
      | false => simpa [hen] using hstart
      | true => simpa [hen] using hstop

/-! The invariant of the RLD (R57, R245..R247). -/

theorem rldInv_reset (epoch : Nat) : RldInv (RldUnit.reset epoch) := by
  constructor <;> simp [RldUnit.reset, Detail.kind]

/-- The invariant speaks of no queue. -/
theorem RldInv.withOutq {u : RldUnit} (h : RldInv u) (q : List OutBeat) : RldInv { u with outq := q } where
  run hs := by
    obtain ⟨rb_pos, rb_max, height_pos, cursor_lt, counter_le, rows_le, last_row, has_prev, cur_written,
      prev_written⟩ := h.run hs
    exact ⟨rb_pos, rb_max, height_pos, cursor_lt, counter_le, rows_le, last_row, has_prev, cur_written,
      prev_written⟩
  done hs := by
    obtain ⟨rows_eq, counter_zero, cursor_zero, length⟩ := h.done hs
    exact ⟨rows_eq, counter_zero, cursor_zero, length⟩
  cur_fits := h.cur_fits
  prev_fits := h.prev_fits
  err_kind := h.err_kind
  own_detail := h.own_detail
  run_err := h.run_err
  done_err := h.done_err
  error_err := h.error_err

/-- Error entry with a detail of the RLD's own, from any state whose buffers fit (R340). -/
theorem rldInv_raise {u : RldUnit} (hcur : u.cur.length ≤ 2 * Config.rbMax)
    (hprev : u.prev.length ≤ 2 * Config.rbMax) {d : Detail} (hkind : d.kind ≠ .none)
    (hown : d ≠ .hexLastMismatch) : RldInv (u.raise d) := by
  constructor <;> simp [hcur, hprev, hkind, hown]

theorem RldInv.raise {u : RldUnit} (h : RldInv u) {d : Detail} (hkind : d.kind ≠ .none)
    (hown : d ≠ .hexLastMismatch) : RldInv (u.raise d) :=
  rldInv_raise h.cur_fits h.prev_fits hkind hown

theorem RldInv.rldAbort {u : RldUnit} (h : RldInv u) : RldInv (rldAbort u) := by
  constructor <;> simp [h.cur_fits, h.prev_fits, h.err_kind, h.own_detail]

/-- What is left to show of an RLD that stays in RUN: the invariant of the run, and that its buffers fit. -/
theorem RldInv.of_run {u v : RldUnit} (h : RldInv u) (hu : u.state = .run) (hv : v.state = .run)
    (herr : v.err = u.err) (hdetail : v.detail = u.detail) (hrun : RldRunInv v)
    (hcur : v.cur.length ≤ 2 * Config.rbMax) (hprev : v.prev.length ≤ 2 * Config.rbMax) : RldInv v := by
  have hnone : v.err = .none := herr.trans (h.run_err hu)
  exact {
    run := fun _ => hrun
    done := fun hs => absurd (hv.symm.trans hs) (by decide)
    cur_fits := hcur
    prev_fits := hprev
    err_kind := by rw [herr, hdetail, h.err_kind]
    own_detail := by rw [hdetail]; exact h.own_detail
    run_err := fun _ => hnone
    done_err := fun _ => hnone
    error_err := fun hs => absurd (hv.symm.trans hs) (by decide) }

/-- The prologue's count is no part of the invariant in RUN. -/
theorem RldInv.countChar {u : RldUnit} (h : RldInv u) (hu : u.state = .run) : RldInv u.countChar := by
  obtain ⟨rb_pos, rb_max, height_pos, cursor_lt, counter_le, rows_le, last_row, has_prev, cur_written,
    prev_written⟩ := h.run hu
  exact h.of_run hu hu rfl rfl ⟨rb_pos, rb_max, height_pos, cursor_lt, counter_le, rows_le, last_row, has_prev,
    cur_written, prev_written⟩ h.cur_fits h.prev_fits

/-- A position of a row, or a count up to its length, fits the 17 bits of `cursor` and `counter`. -/
theorem RldUnit.toNat_ofNat_of_le_rowLen {u : RldUnit} {n : Nat} (h : n ≤ u.rowLen) :
    (BitVec.ofNat 17 n).toNat = n := by
  have hrb := u.rb.isLt
  unfold RldUnit.rowLen at h
  rw [BitVec.toNat_ofNat]
  omega

/-- Completing the row of an RLD that met the invariant with rows left. Placing and copying change the current row
and the cursor alone before it, and leave nothing pending; one row more is at most the last one (R245). -/
theorem RldInv.completeRow {u v : RldUnit} (h : RldInv u) (hu : u.state = .run) (hrows : u.rows ≠ u.height)
    (hfix : v = { u with cur := v.cur, cursor := v.cursor, counter := 0 })
    (hcur : v.cur.length ≤ 2 * Config.rbMax) : RldInv v.completeRow := by
  obtain ⟨rb_pos, rb_max, height_pos, -, -, rows_le, -, -, -, -⟩ := h.run hu
  have hlt : u.rows.toNat < u.height.toNat := Nat.lt_of_le_of_ne rows_le (fun he => hrows (BitVec.eq_of_toNat_eq he))
  have hheight := u.height.isLt
  generalize v.cur = b at hfix hcur
  generalize v.cursor = p at hfix
  subst hfix
  have hprev : ({ u with cur := b, cursor := p, counter := 0 } : RldUnit).completeRow.prev.length ≤
      2 * Config.rbMax := by
    have := h.prev_fits
    simp [bufCopy_length, RldUnit.rowLen]
    omega
  refine h.of_run hu hu rfl rfl ?_ hcur hprev
  constructor <;> simp [RldUnit.rowLen, bufCopy_length] <;> omega

/-- A multiplier character's count is added where it fits the rest of the row (R272, R286). -/
theorem RldInv.addMult {u : RldUnit} (h : RldInv u) (hu : u.state = .run) (hrows : u.rows ≠ u.height)
    (v : Nat) : RldInv (addMult v u) := by
  rcases addMult_cases v u with ⟨-, he⟩ | ⟨hle, he⟩ <;> rw [he]
  · exact h.raise (by decide) (by decide)
  · obtain ⟨rb_pos, rb_max, height_pos, cursor_lt, counter_le, rows_le, last_row, has_prev, cur_written,
      prev_written⟩ := h.run hu
    have hcount := RldUnit.toNat_ofNat_of_le_rowLen (u := u) (n := u.counter.toNat + v) (by omega)
    exact h.of_run hu hu rfl rfl ⟨rb_pos, rb_max, height_pos, cursor_lt, hcount.trans_le hle, rows_le,
      fun heq => absurd heq hrows, has_prev, cur_written, prev_written⟩ h.cur_fits h.prev_fits

/-- Nibbles written inside the row keep the current buffer inside its bound. -/
theorem RldInv.fillCur_fits {u : RldUnit} (h : RldInv u) (hu : u.state = .run) {p k : Nat}
    (hpk : p + k ≤ u.rowLen) (n : Nibble) : (u.fillCur p k n).cur.length ≤ 2 * Config.rbMax := by
  have hmax := (h.run hu).rb_max
  have hcur := h.cur_fits
  unfold RldUnit.rowLen at hpk
  rw [RldUnit.fillCur_cur, bufFill_length]
  omega

/-- `PlaceData`: the run overflows, ends inside the row, or completes it (R277). -/
theorem RldInv.placeData {u : RldUnit} (h : RldInv u) (hu : u.state = .run) (hrows : u.rows ≠ u.height)
    (n : Nibble) : RldInv (placeData n u) := by
  rcases placeData_cases n u with ⟨-, he⟩ | ⟨hlt, he⟩ | ⟨heq, he⟩ <;> rw [he]
  · exact h.raise (by decide) (by decide)
  · obtain ⟨rb_pos, rb_max, height_pos, cursor_lt, counter_le, rows_le, last_row, has_prev, cur_written,
      prev_written⟩ := h.run hu
    have hcursor := RldUnit.toNat_ofNat_of_le_rowLen hlt.le
    refine h.of_run hu hu rfl rfl ⟨rb_pos, rb_max, height_pos, hcursor.trans_lt hlt, Nat.zero_le _, rows_le,
      fun heq => absurd heq hrows, has_prev, ?_, prev_written⟩ (h.fillCur_fits hu hlt.le n) h.prev_fits
    simp only [RldUnit.fillCur_cur, bufFill_length, hcursor]
    omega
  · exact h.completeRow hu hrows rfl (h.fillCur_fits hu heq.le n)

/-- `Fill`: a multiplier is pending, or the row is completed (R280). -/
theorem RldInv.fillRow {u : RldUnit} (h : RldInv u) (hu : u.state = .run) (hrows : u.rows ≠ u.height)
    (n : Nibble) : RldInv (fillRow n u) := by
  rcases fillRow_cases n u with ⟨-, he⟩ | ⟨hc, he⟩ <;> rw [he]
  · exact h.raise (by decide) (by decide)
  · have hlt : u.cursor.toNat < u.rowLen := (h.run hu).cursor_lt
    exact h.completeRow hu hrows (by rw [← hc]; rfl) (h.fillCur_fits hu (by omega) n)

/-- The previous row, copied, keeps the current buffer inside its bound. -/
theorem RldInv.copyPrev_fits {u : RldUnit} (h : RldInv u) (hu : u.state = .run) :
    u.copyPrev.cur.length ≤ 2 * Config.rbMax := by
  have hmax := (h.run hu).rb_max
  have hcur := h.cur_fits
  rw [RldUnit.copyPrev_cur, bufCopy_length, bufTake_length, RldUnit.rowLen]
  omega

/-- The rule of `:`: one of its three errors, or the previous row completed again (R282). -/
theorem RldInv.repeatPrev {u : RldUnit} (h : RldInv u) (hu : u.state = .run) (hrows : u.rows ≠ u.height) :
    RldInv (repeatPrev u) := by
  rcases repeatPrev_cases u with ⟨-, he⟩ | ⟨-, -, he⟩ | ⟨-, -, -, he⟩ | ⟨-, hc, -, he⟩ <;> rw [he]
  · exact h.raise (by decide) (by decide)
  · exact h.raise (by decide) (by decide)
  · exact h.raise (by decide) (by decide)
  · exact h.completeRow hu hrows (by rw [← hc]; rfl) (h.copyPrev_fits hu)

/-- The prologue of a body character, for a rule that keeps the invariant before the last row's end (R270). -/
theorem RldInv.charBody {u : RldUnit} (h : RldInv u) (hu : u.state = .run) {f : RldUnit → RldUnit}
    (hf : ∀ v : RldUnit, RldInv v → v.state = .run → v.rows ≠ v.height → RldInv (f v)) :
    RldInv (charBody f u) := by
  rcases charBody_cases f u with ⟨-, he⟩ | ⟨hrows, he⟩ <;> rw [he]
  · exact (h.countChar hu).raise (by decide) (by decide)
  · exact hf _ (h.countChar hu) hu hrows

/-- The End beat: one of its three errors, or DONE with the post-conditions of R247 (R246). -/
theorem RldInv.endBody {u : RldUnit} (h : RldInv u) (hu : u.state = .run) : RldInv (endBody u) := by
  rcases endBody_cases u with ⟨-, he⟩ | ⟨-, -, he⟩ | ⟨-, -, -, -, he⟩ | ⟨hc, hge, hlen, he⟩ <;> rw [he]
  · exact h.raise (by decide) (by decide)
  · exact h.raise (by decide) (by decide)
  · exact h.raise (by decide) (by decide)
  · have hrows : u.rows = u.height := BitVec.eq_of_toNat_eq (Nat.le_antisymm (h.run hu).rows_le hge)
    exact {
      run := nofun
      done := fun _ => ⟨hrows, hc, ((h.run hu).last_row hrows).1, hlen⟩
      cur_fits := h.cur_fits
      prev_fits := h.prev_fits
      err_kind := h.err_kind
      own_detail := h.own_detail
      run_err := nofun
      done_err := fun _ => h.run_err hu
      error_err := nofun }

/-- Every beat at an RLD in RUN keeps its invariant. -/
theorem RldInv.rldOp {u : RldUnit} (h : RldInv u) (hu : u.state = .run) {f : RldUnit → RldUnit}
    (op : RldOp f) : RldInv (f u) := by
  cases op with
  | invalid => exact (h.countChar hu).raise (by decide) (by decide)
  | skip => exact h.countChar hu
  | mult v => exact h.charBody hu fun _ hw hr hne => hw.addMult hr hne v
  | data n => exact h.charBody hu fun _ hw hr hne => hw.placeData hr hne n
  | fill n => exact h.charBody hu fun _ hw hr hne => hw.fillRow hr hne n
  | repeatRow => exact h.charBody hu fun _ hw hr hne => hw.repeatPrev hr hne
  | endBeat => exact h.endBody hu

/-- RLD_START, from any state whose buffers fit: one of its four errors, or a run at its first row (R241). -/
theorem RldInv.rldStart {u : RldUnit} (h : RldInv u) (c : Csr) : RldInv (rldStart c u) := by
  have herr : ∀ d : Detail, d.kind ≠ .none → d ≠ .hexLastMismatch → RldInv ((u.latch c).raise d) :=
    fun _ hkind hown => rldInv_raise (u := u.latch c) h.cur_fits h.prev_fits hkind hown
  rcases rldStart_cases c u with ⟨-, he⟩ | ⟨-, -, he⟩ | ⟨-, -, -, he⟩ | ⟨-, -, -, -, he⟩ |
    ⟨hr, hmax, ht, hmod, he⟩ <;> rw [he]
  · exact herr _ (by decide) (by decide)
  · exact herr _ (by decide) (by decide)
  · exact herr _ (by decide) (by decide)
  · exact herr _ (by decide) (by decide)
  · have hheight : (BitVec.ofNat 32 (c.total.toNat / c.rowbytes.toNat)).toNat =
        c.total.toNat / c.rowbytes.toNat := by
      rw [BitVec.toNat_ofNat]
      exact Nat.mod_eq_of_lt (Nat.lt_of_le_of_lt (Nat.div_le_self _ _) c.total.isLt)
    have hpos : 0 < c.total.toNat / c.rowbytes.toNat :=
      Nat.div_pos (Nat.le_of_dvd (Nat.pos_of_ne_zero ht) (Nat.dvd_of_mod_eq_zero hmod)) (Nat.pos_of_ne_zero hr)
    exact {
      run := fun _ => ⟨Nat.pos_of_ne_zero hr, hmax, hpos.trans_eq hheight.symm, by simp; omega, by simp, by simp,
        fun _ => ⟨rfl, rfl⟩, by simp, by simp, by simp⟩
      done := nofun
      cur_fits := h.cur_fits
      prev_fits := h.prev_fits
      err_kind := rfl
      own_detail := nofun
      run_err := fun _ => rfl
      done_err := nofun
      error_err := nofun }

/-- A CTRL write starts, aborts or leaves the RLD (R302). -/
theorem RldInv.ctrlWrite {s : State} (h : RldInv s.rld) (d : Word32) : RldInv (ctrlWrite d s).rld := by
  rw [ctrlWrite_rld]
  split
  · exact h.rldStart _
  · split
    · exact h.rldAbort
    · exact h

/-! The block. -/

/-- Settles O13: the base of the invariant, one unit at a time. -/
theorem resetMeetsTheInvariants : Obligations.ResetMeetsTheInvariants :=
  ⟨hexInv_reset, rldInv_reset 0⟩

theorem StepEffect.keeps_inv {s : State} {c : Csr} {u : HexUnit} {r : RldUnit} (e : StepEffect s c u r)
    (inv : BlockInv s) : HexInv c u ∧ RldInv r := by
  obtain ⟨hhex, hrld⟩ := inv
  cases e with
  | none => exact ⟨hhex, hrld⟩
  | rldBeat op hrun _ => exact ⟨hhex, hrld.rldOp hrun op⟩
  | hexBeat last b hrun _ => exact ⟨hhex.hexByte hrun last b, hrld⟩
  | store a d =>
    obtain ⟨hen, -, -⟩ := csrStore_ctrl a d s.csr
    exact ⟨hhex.congr hen s.hex.outq, hrld⟩
  | ctrl d => exact ⟨hhex.ctrlWrite d, hrld.ctrlWrite d⟩
  | hexOut => exact ⟨hhex.congr rfl _, hrld⟩
  | rldOut => exact ⟨hhex, hrld.withOutq _⟩
  | reset ts _ => exact ⟨hexInv_reset, rldInv_reset _⟩

/-- Settles O14, by the cases of what a step does to the units. -/
theorem everyStepKeepsTheInvariants : Obligations.EveryStepKeepsTheInvariants := by
  intro s t inv h
  obtain ⟨hhex, hrld⟩ := (step_effect h).keeps_inv inv
  exact ⟨hhex, hrld⟩

end Sys2Proof.Machine
end

section
/-! No step but a reset writes a row buffer beyond its row (R53; log 19). -/

namespace Sys2Proof.Machine

/-- The two row buffers agree in every element that the row length of `u` leaves out. -/
def SameBeyondRow (u v : RldUnit) : Prop :=
  ∀ i, u.rowLen ≤ i → v.curAt i = u.curAt i ∧ v.prevAt i = u.prevAt i

theorem SameBeyondRow.trans {u v w : RldUnit} (huv : SameBeyondRow u v) (hlen : v.rowLen = u.rowLen)
    (hvw : SameBeyondRow v w) : SameBeyondRow u w := fun i hi =>
  ⟨((hvw i (hlen ▸ hi)).1.trans (huv i hi).1), ((hvw i (hlen ▸ hi)).2.trans (huv i hi).2)⟩

/-- An update of other fields leaves every element of the buffers. -/
theorem sameBeyondRow_of_buffers_eq {u v : RldUnit} (hcur : v.cur = u.cur) (hprev : v.prev = u.prev)
    (hepoch : v.epoch = u.epoch) : SameBeyondRow u v := fun i _ => by
  simp [RldUnit.curAt, RldUnit.prevAt, hcur, hprev, hepoch]

theorem sameBeyondRow_raise (u : RldUnit) (d : Detail) : SameBeyondRow u (u.raise d) :=
  sameBeyondRow_of_buffers_eq rfl rfl rfl

/-- Nibbles placed from element `p` on, no more than the row has left, end where the row ends. -/
theorem sameBeyondRow_fillCur {u : RldUnit} {p k : Nat} (hk : k ≤ u.rowLen - p) (n : Nibble) :
    SameBeyondRow u (u.fillCur p k n) := fun i hi =>
  ⟨by rw [RldUnit.fillCur_curAt, if_neg (by omega)], rfl⟩

theorem sameBeyondRow_copyPrev (u : RldUnit) : SameBeyondRow u u.copyPrev := fun i hi =>
  ⟨by rw [RldUnit.copyPrev_curAt, if_neg (Nat.not_lt.2 hi)], rfl⟩

theorem sameBeyondRow_completeRow (u : RldUnit) : SameBeyondRow u u.completeRow := fun i hi =>
  ⟨rfl, by rw [RldUnit.completeRow_prevAt, if_neg (Nat.not_lt.2 hi)]⟩

theorem sameBeyondRow_addMult (v : Nat) (u : RldUnit) : SameBeyondRow u (addMult v u) := by
  rcases addMult_cases v u with ⟨-, he⟩ | ⟨-, he⟩ <;> rw [he]
  · exact sameBeyondRow_raise u _
  · exact sameBeyondRow_of_buffers_eq rfl rfl rfl

theorem sameBeyondRow_placeData (n : Nibble) (u : RldUnit) : SameBeyondRow u (placeData n u) := by
  rcases placeData_cases n u with ⟨-, he⟩ | ⟨hlt, he⟩ | ⟨heq, he⟩ <;> rw [he]
  · exact sameBeyondRow_raise u _
  · exact (sameBeyondRow_fillCur (by omega) n).trans rfl (sameBeyondRow_of_buffers_eq rfl rfl rfl)
  · exact ((sameBeyondRow_fillCur (by omega) n).trans rfl
      (sameBeyondRow_of_buffers_eq rfl rfl rfl)).trans rfl (sameBeyondRow_completeRow _)

theorem sameBeyondRow_fillRow (n : Nibble) (u : RldUnit) : SameBeyondRow u (fillRow n u) := by
  rcases fillRow_cases n u with ⟨-, he⟩ | ⟨-, he⟩ <;> rw [he]
  · exact sameBeyondRow_raise u _
  · exact (sameBeyondRow_fillCur le_rfl n).trans rfl (sameBeyondRow_completeRow _)

theorem sameBeyondRow_repeatPrev (u : RldUnit) : SameBeyondRow u (repeatPrev u) := by
  rcases repeatPrev_cases u with ⟨-, he⟩ | ⟨-, -, he⟩ | ⟨-, -, -, he⟩ | ⟨-, -, -, he⟩ <;> rw [he]
  · exact sameBeyondRow_raise u _
  · exact sameBeyondRow_raise u _
  · exact sameBeyondRow_raise u _
  · exact (sameBeyondRow_copyPrev u).trans rfl (sameBeyondRow_completeRow _)

theorem sameBeyondRow_charBody {f : RldUnit → RldUnit} (hf : ∀ v, SameBeyondRow v (f v)) (u : RldUnit) :
    SameBeyondRow u (charBody f u) := by
  rcases charBody_cases f u with ⟨-, he⟩ | ⟨-, he⟩ <;> rw [he]
  · exact sameBeyondRow_of_buffers_eq rfl rfl rfl
  · exact hf u.countChar

theorem sameBeyondRow_endBody (u : RldUnit) : SameBeyondRow u (endBody u) := by
  rcases endBody_cases u with ⟨-, he⟩ | ⟨-, -, he⟩ | ⟨-, -, -, -, he⟩ | ⟨-, -, -, he⟩ <;> rw [he] <;>
    exact sameBeyondRow_of_buffers_eq rfl rfl rfl

/-- Every beat at the RLD, in any state of it. -/
theorem sameBeyondRow_rldOp {f : RldUnit → RldUnit} (op : RldOp f) (u : RldUnit) : SameBeyondRow u (f u) := by
  cases op with
  | invalid => exact sameBeyondRow_of_buffers_eq rfl rfl rfl
  | skip => exact sameBeyondRow_of_buffers_eq rfl rfl rfl
  | mult v => exact sameBeyondRow_charBody (sameBeyondRow_addMult v) u
  | data n => exact sameBeyondRow_charBody (sameBeyondRow_placeData n) u
  | fill n => exact sameBeyondRow_charBody (sameBeyondRow_fillRow n) u
  | repeatRow => exact sameBeyondRow_charBody sameBeyondRow_repeatPrev u
  | endBeat => exact sameBeyondRow_endBody u

/-- A start latches a new row length and writes no buffer (R241). -/
theorem sameBeyondRow_rldStart (c : Csr) (u : RldUnit) : SameBeyondRow u (rldStart c u) := by
  rcases rldStart_cases c u with ⟨-, he⟩ | ⟨-, -, he⟩ | ⟨-, -, -, he⟩ | ⟨-, -, -, -, he⟩ |
    ⟨-, -, -, -, he⟩ <;> rw [he] <;> exact sameBeyondRow_of_buffers_eq rfl rfl rfl

theorem sameBeyondRow_ctrlWrite (d : Word32) (s : State) : SameBeyondRow s.rld (ctrlWrite d s).rld := by
  rw [ctrlWrite_rld]
  split
  · exact sameBeyondRow_rldStart _ _
  · split <;> exact sameBeyondRow_of_buffers_eq rfl rfl rfl

theorem StepEffect.sameBeyondRow {s : State} {c : Csr} {u : HexUnit} {r : RldUnit} (e : StepEffect s c u r)
    (hrst : ∀ ts, s.schedule ≠ .rst :: ts) : SameBeyondRow s.rld r := by
  cases e with
  | none => exact sameBeyondRow_of_buffers_eq rfl rfl rfl
  | rldBeat op _ _ => exact sameBeyondRow_rldOp op _
  | hexBeat => exact sameBeyondRow_of_buffers_eq rfl rfl rfl
  | store => exact sameBeyondRow_of_buffers_eq rfl rfl rfl
  | ctrl d => exact sameBeyondRow_ctrlWrite d s
  | hexOut => exact sameBeyondRow_of_buffers_eq rfl rfl rfl
  | rldOut => exact sameBeyondRow_of_buffers_eq rfl rfl rfl
  | reset ts hs => exact absurd hs (hrst ts)

/-- Settles O46, by the cases of what a step does to the RLD. -/
theorem elementsBeyondTheRowStay : Obligations.ElementsBeyondTheRowStay := fun _ _ h hrst =>
  (step_effect h).sameBeyondRow hrst

end Sys2Proof.Machine
end

section
/-! The registers as the host reads and writes them, and after reset (R33..R50, R56, R300, R301). -/

namespace Sys2Proof.Machine

/-! A word made of fields, each shifted to its place: a slice of it is the field of that place, since the other
fields lie above the slice or below it. -/

@[simp] theorem extract_field_self {n k : Nat} (x : BitVec n) (h : k + n ≤ 32) :
    ((x.setWidth 32 : Word32) <<< k).extractLsb' k n = x := by
  ext i hi
  simp [hi, show k + i < 32 by omega, BitVec.getLsbD_eq_getElem]

@[simp] theorem extract_field_above {n j k m : Nat} (x : BitVec n) (h : k + m ≤ j) :
    ((x.setWidth 32 : Word32) <<< j).extractLsb' k m = 0#m := by
  ext i hi
  simp [show k + i < j by omega]

@[simp] theorem extract_field_below {n j k m : Nat} (x : BitVec n) (h : j + n ≤ k) :
    ((x.setWidth 32 : Word32) <<< j).extractLsb' k m = 0#m := by
  ext i hi
  simp [BitVec.getLsbD_of_ge x (k + i - j) (by omega)]

/-- The field at bit 0 stands in the word without a shift. -/
@[simp] theorem extract_low_self {n : Nat} (x : BitVec n) (h : n ≤ 32) :
    (x.setWidth 32 : Word32).extractLsb' 0 n = x := by
  simpa using extract_field_self (k := 0) x (by omega)

@[simp] theorem extract_low_below {n k m : Nat} (x : BitVec n) (h : n ≤ k) :
    (x.setWidth 32 : Word32).extractLsb' k m = 0#m := by
  simpa using extract_field_below (j := 0) (m := m) x (by omega)

/-! The status words field by field (R35, R39, R41). -/

theorem ctrlView_hexEn (c : Csr) : (ctrlView c).getLsbD 0 = c.hexEn := by simp [ctrlView, bitField]

theorem ctrlView_hexUpper (c : Csr) : (ctrlView c).getLsbD 1 = c.hexUpper := by simp [ctrlView, bitField]

theorem ctrlView_rldPixel (c : Csr) : (ctrlView c).getLsbD 2 = c.rldPixel := by simp [ctrlView, bitField]

theorem ctrlView_above (c : Csr) : (ctrlView c).extractLsb' 3 29 = 0#29 := by
  simp [ctrlView, bitField, BitVec.extractLsb'_or]

theorem hexStatusView_state (u : HexUnit) : (hexStatusView u).extractLsb' 0 2 = u.state.code := by
  simp [hexStatusView, bitField, BitVec.extractLsb'_or]

theorem hexStatusView_upper (u : HexUnit) : (hexStatusView u).getLsbD 2 = u.upper := by
  simp [hexStatusView, bitField]

theorem hexStatusView_bit3 (u : HexUnit) : (hexStatusView u).getLsbD 3 = false := by
  simp [hexStatusView, bitField]

theorem hexStatusView_err (u : HexUnit) : (hexStatusView u).extractLsb' 4 4 = u.err.code := by
  simp [hexStatusView, bitField, BitVec.extractLsb'_or]

theorem hexStatusView_detail (u : HexUnit) : (hexStatusView u).extractLsb' 8 8 = u.detail.code := by
  simp [hexStatusView, bitField, BitVec.extractLsb'_or]

theorem hexStatusView_idx (u : HexUnit) : (hexStatusView u).extractLsb' 16 16 = u.idx := by
  simp [hexStatusView, bitField, BitVec.extractLsb'_or]

theorem rldStatusView_state (u : RldUnit) : (rldStatusView u).extractLsb' 0 2 = u.state.code := by
  simp [rldStatusView, bitField, BitVec.extractLsb'_or]

theorem rldStatusView_hasPrev (u : RldUnit) : (rldStatusView u).getLsbD 2 = u.hasPrev := by
  simp [rldStatusView, bitField]

theorem rldStatusView_pix (u : RldUnit) : (rldStatusView u).getLsbD 3 = u.pix := by
  simp [rldStatusView, bitField]

theorem rldStatusView_err (u : RldUnit) : (rldStatusView u).extractLsb' 4 4 = u.err.code := by
  simp [rldStatusView, bitField, BitVec.extractLsb'_or]

theorem rldStatusView_detail (u : RldUnit) : (rldStatusView u).extractLsb' 8 8 = u.detail.code := by
  simp [rldStatusView, bitField, BitVec.extractLsb'_or]

theorem rldStatusView_rb (u : RldUnit) : (rldStatusView u).extractLsb' 16 16 = u.rb := by
  simp [rldStatusView, bitField, BitVec.extractLsb'_or]

/-! Reads (R84, R300). -/

/-- A read of an aligned and mapped address answers its view, and changes nothing else (R89). -/
theorem exec_csrRead {a : BitVec 8} (ha : busError a = false) (d : Word32) (s : State) :
    exec (.csrRead a d) s = .next (s.withReply (.read (csrView a s) false)) := by
  show Host.Outcome.next (csrRead a s) = _
  simp [csrRead, ha]

/-- Settles O33: each word's fields, and the codes of R300, R331 and R332. -/
theorem statusReadsShowTheirFields : Obligations.StatusReadsShowTheirFields := by
  intro d s
  refine ⟨⟨ctrlView s.csr, exec_csrRead rfl d s, ctrlView_hexEn _, ctrlView_hexUpper _, ctrlView_rldPixel _,
    ctrlView_above _⟩, ⟨hexStatusView s.hex, exec_csrRead rfl d s, (hexStatusView_state _).trans ?_,
    hexStatusView_upper _, hexStatusView_bit3 _, (hexStatusView_err _).trans ?_,
    (hexStatusView_detail _).trans ?_, hexStatusView_idx _⟩, ⟨rldStatusView s.rld, exec_csrRead rfl d s,
    (rldStatusView_state _).trans ?_, rldStatusView_hasPrev _, rldStatusView_pix _,
    (rldStatusView_err _).trans ?_, (rldStatusView_detail _).trans ?_, rldStatusView_rb _⟩⟩
  · cases s.hex.state <;> rfl
  · cases s.hex.err <;> rfl
  · cases s.hex.detail <;> rfl
  · cases s.rld.state <;> rfl
  · cases s.rld.err <;> rfl
  · cases s.rld.detail <;> rfl

/-- What a read of a mapped register answered is its view. -/
theorem csrView_of_read {a : BitVec 8} (ha : busError a = false) {d v : Word32} {s t : State}
    (h : exec (.csrRead a d) s = .next t) (hv : t.reply = some (.read v false)) : v = csrView a s := by
  obtain rfl := Host.Outcome.next.inj ((exec_csrRead ha d s).symm.trans h)
  obtain ⟨hview, -⟩ := Reply.read.inj (Option.some.inj hv)
  exact hview.symm

theorem HexState.code_ne_three (x : HexState) : x.code ≠ 3#2 := by cases x <;> decide

/-- No detail belongs to AlphabetOverflow or InvalidThreshold (R332, R336, R337). -/
theorem Detail.kind_code_le_three (d : Detail) : d.kind.code.toNat ≤ 3 := by cases d <;> decide

/-- R_ZERO and HEX_LAST_MISMATCH are both InvalidDimension (R332). -/
theorem HexInv.err_code_le_one {c : Csr} {u : HexUnit} (h : HexInv c u) : u.err.code.toNat ≤ 1 := by
  rw [h.err_kind]
  rcases h.own_detail with hd | hd | hd <;> rw [hd] <;> decide

/-- Settles O15: STATE by its code alone, the ERR fields by the details that each unit can have. -/
theorem statusFieldsStayInRange : Obligations.StatusFieldsStayInRange := by
  refine ⟨fun s t d v h hv => ?_, fun s t d v h hv inv => ?_⟩
  · obtain rfl : v = hexStatusView s.hex := csrView_of_read rfl h hv
    rw [hexStatusView_state, hexStatusView_err]
    exact ⟨s.hex.state.code_ne_three, fun inv => inv.hex.err_code_le_one⟩
  · obtain rfl : v = rldStatusView s.rld := csrView_of_read rfl h hv
    rw [rldStatusView_err, inv.rld.err_kind]
    exact s.rld.detail.kind_code_le_three

/-- The addresses of the sixteen registers (R33) are aligned and mapped. -/
theorem busError_register (k : Fin 16) : busError (BitVec.ofNat 8 (4 * k.val)) = false := by
  decide +revert

/-- The column of reset values of R33. -/
theorem csrView_reset (k : Fin 16) : csrView (BitVec.ofNat 8 (4 * k.val)) State.reset =
    if k.val = 13 then 0x80000000#32 else 0x00000000#32 := by
  decide +revert

/-- Settles O11: each register's view after reset. -/
theorem resetRegistersRead : Obligations.ResetRegistersRead := by
  intro k
  rw [exec_csrRead (busError_register k), csrView_reset]
  rfl

/-! Writes (R301). -/

theorem exec_csrWrite (a : BitVec 8) (d : Word32) (s : State) :
    exec (.csrWrite a d) s = .next (hostWrite a d s) := rfl

theorem exec_lutEncode (d : Word32) (s : State) : exec (.lutEncode d) s = .next (hostWrite 0x30#8 d s) := rfl

theorem exec_lutDecode (d : Word32) (s : State) : exec (.lutDecode d) s = .next (hostWrite 0x38#8 d s) := rfl

/-- A write to a mapped register other than CTRL stores what `csrStore` says. -/
theorem hostWrite_store {a : BitVec 8} (h0 : a ≠ 0x00#8) (ha : busError a = false) (d : Word32) (s : State) :
    hostWrite a d s = { s with csr := csrStore a d s.csr, reply := some (.write false) } := by
  rcases hostWrite_cases a d s with ⟨h, -⟩ | ⟨-, h, -⟩ | ⟨-, -, h⟩
  · exact absurd h h0
  · exact absurd (ha.symm.trans h) (by decide)
  · exact h

theorem hostWrite_busError {a : BitVec 8} (ha : busError a = true) (d : Word32) (s : State) :
    hostWrite a d s = { s with reply := some (.write true) } := by
  rcases hostWrite_cases a d s with ⟨rfl, -⟩ | ⟨-, -, h⟩ | ⟨-, h, -⟩
  · exact absurd ha (by decide)
  · exact h
  · exact absurd (ha.symm.trans h) (by decide)

theorem busError_iff (a : BitVec 8) : busError a = true ↔ a.toNat % 4 ≠ 0 ∨ 0x40 ≤ a.toNat := by
  simp [busError]

/-- The addresses of the RO registers (R33). -/
def roAddrs : List (BitVec 8) :=
  [0x10#8, 0x14#8, 0x18#8, 0x1C#8, 0x20#8, 0x24#8, 0x28#8, 0x2C#8, 0x34#8, 0x3C#8]

theorem roAddrs_mapped : ∀ a ∈ roAddrs, a ≠ 0x00#8 ∧ busError a = false := by decide

/-- No RO register stores anything (R301). -/
theorem csrStore_ro (d : Word32) (c : Csr) : ∀ a ∈ roAddrs, csrStore a d c = c := by
  simp only [roAddrs, List.forall_mem_cons]
  exact ⟨rfl, rfl, rfl, rfl, rfl, rfl, rfl, rfl, rfl, rfl, nofun⟩

/-- ROWBYTES keeps bits 15:0 (R36). -/
theorem csrStore_rowbytes (d : Word32) (c : Csr) :
    csrStore 0x04#8 d c = { c with rowbytes := d.extractLsb' 0 16 } := by
  rw [← BitVec.setWidth_eq_extractLsb' (by decide)]
  rfl

/-- LUT_COUNT keeps bits 15:0 (R47). -/
theorem csrStore_lutCount (d : Word32) (c : Csr) :
    csrStore 0x30#8 d c = { c with lutCount := d.extractLsb' 0 16 } := by
  rw [← BitVec.setWidth_eq_extractLsb' (by decide)]
  rfl

/-- LUT_CHAR keeps bits 7:0 (R49). -/
theorem csrStore_lutChar (d : Word32) (c : Csr) :
    csrStore 0x38#8 d c = { c with lutChar := d.extractLsb' 0 8 } := by
  rw [← BitVec.setWidth_eq_extractLsb' (by decide)]
  rfl

/-- Settles O34: the five stores, the RO registers, the bus errors. -/
theorem registerWritesStoreTheirFields : Obligations.RegisterWritesStoreTheirFields := by
  intro d s
  refine ⟨?_, ?_, ?_, ?_, ?_, fun a ha => ?_, fun a ha => ?_⟩
  · rw [exec_csrWrite, hostWrite_store (by decide) rfl, csrStore_rowbytes]
  · rw [exec_csrWrite, hostWrite_store (by decide) rfl]
    rfl
  · rw [exec_csrWrite, hostWrite_store (by decide) rfl]
    rfl
  · rw [exec_lutEncode, hostWrite_store (by decide) rfl, csrStore_lutCount]
  · rw [exec_lutDecode, hostWrite_store (by decide) rfl, csrStore_lutChar]
  · obtain ⟨h0, hmapped⟩ := roAddrs_mapped a ha
    rw [exec_csrWrite, hostWrite_store h0 hmapped, csrStore_ro d s.csr a ha]
  · rw [exec_csrWrite, hostWrite_busError ((busError_iff a).2 ha)]

/-! Reset (R56, R370). -/

theorem step_rst {s : State} {ts : List Turn} (hs : s.schedule = .rst :: ts) :
    step s = .next (resetBlock { s with schedule := ts }) := by
  simp [step, fetch, hs, takeTurn]

/-- Settles O10: the fields of the block that the reset turn leaves. -/
theorem resetTurnClearsTheBlock : Obligations.ResetTurnClearsTheBlock := by
  intro s ts hs
  exact ⟨_, step_rst hs, rfl, rfl, ⟨rfl, rfl, rfl, rfl, rfl, rfl, rfl, rfl, rfl, rfl, rfl, rfl, rfl⟩,
    rfl, rfl, rfl, rfl⟩

end Sys2Proof.Machine
end

section
/-! What an input means and what its turn does: the accepted and the held input, the consumers' turns, and every
step by the turn it takes (R91, R92, R93, R110). -/

namespace Sys2Proof.Machine

/-! Char beats (R113). -/

/-- The operation of a class of body characters (R270..R285). -/
def CharClass.op : CharClass → RldUnit → RldUnit
  | .data n => charData n
  | .mult v => charMult v
  | .fillWhite => charFill 0x0#4
  | .fillBlack => charFill 0xF#4
  | .repeatRow => charRepeat
  | .skip => charSkip
  | .invalid => charInvalid

theorem CharClass.rldOp : ∀ k : CharClass, RldOp k.op
  | .data n => .data n
  | .mult v => .mult v
  | .fillWhite => .fill 0x0#4
  | .fillBlack => .fill 0xF#4
  | .repeatRow => .repeatRow
  | .skip => .skip
  | .invalid => .invalid

/-- What R113 makes of a Char beat of code `n`: the operation of the code's class. -/
def classMeaning (n : Nat) : State → Host.Outcome State Fault Refusal :=
  rldBeat (classOf (BitVec.ofNat 8 n)).op

theorem exec_charRowsLow : charRowsLow.map exec = (List.range' 0 64).map classMeaning := rfl

theorem exec_charRowsLetters : charRowsLetters.map exec = (List.range' 64 64).map classMeaning := rfl

theorem exec_charRowsHigh_take :
    (charRowsHigh.take 64).map exec = (List.range' 128 64).map classMeaning := rfl

theorem exec_charRowsHigh_drop :
    (charRowsHigh.drop 64).map exec = (List.range' 192 64).map classMeaning := rfl

/-- The whole body character map, in code order. -/
theorem exec_charRows : (charRowsLow ++ charRowsLetters ++ charRowsHigh).map exec =
    (List.range' 0 256).map classMeaning := by
  rw [← List.take_append_drop 64 charRowsHigh]
  simp only [List.map_append, exec_charRowsLow, exec_charRowsLetters, exec_charRowsHigh_take,
    exec_charRowsHigh_drop]
  simp only [← List.map_append, List.append_assoc]
  rw [List.range'_append_1 (s := 128), List.range'_append_1 (s := 64), List.range'_append_1 (s := 0)]

/-- A Char beat means the operation of its class, whichever of the 256 rows it is. -/
theorem exec_decodeChar (c : BitVec 8) : exec (decodeChar c) = rldBeat (classOf c).op := by
  have h := congrArg (·[c.toNat]?) exec_charRows
  simp only [List.getElem?_map, List.getElem?_range' c.isLt, Option.map_some, classMeaning] at h
  obtain ⟨i, hi, hexec⟩ := Option.map_eq_some_iff.1 h
  rw [decodeChar, hi]
  simpa using hexec

/-! The meaning of each input (R110, R112, R122). -/

/-- The operation of an RLDBEAT: the End beat whatever its CHAR is, or the class of its character. -/
def beatOp (w : BitVec 9) : RldUnit → RldUnit :=
  if w.getLsbD 8 then endBody else (classOf (w.extractLsb' 0 8)).op

theorem rldOp_beatOp (w : BitVec 9) : RldOp (beatOp w) := by
  unfold beatOp
  split
  · exact .endBeat
  · exact (classOf _).rldOp

theorem exec_decode_rldBeat (w : BitVec 9) : exec (decode (.rldBeat w)) = rldBeat (beatOp w) := by
  simp only [decode, decodeRldBeat, beatOp]
  split
  · rfl
  · exact exec_decodeChar _

theorem exec_decode_hexBeat (w : BitVec 9) :
    exec (decode (.hexBeat w)) = hexBeat (hexByte (w.getLsbD 8) (w.extractLsb' 0 8)) := rfl

/-- Every name of a CTRL write means the whole of it (R302; log 6). -/
theorem exec_decodeCtrl (d : Word32) (s : State) : exec (decodeCtrl d) s = .next (hostWrite 0x00#8 d s) := by
  unfold decodeCtrl
  split <;> rfl

theorem exec_decode_hostRead {w : BitVec 41} (hw : w.getLsbD 40 = false) (s : State) :
    exec (decode (.hostOp w)) s = .next (csrRead (w.extractLsb' 32 8) s) := by
  simp only [decode, decodeHostOp, hw]
  rfl

/-- Whichever row a write's address and data name, it means the write that they spell. -/
theorem exec_decode_hostWrite {w : BitVec 41} (hw : w.getLsbD 40 = true) (s : State) :
    exec (decode (.hostOp w)) s = .next (hostWrite (w.extractLsb' 32 8) (w.extractLsb' 0 32) s) := by
  simp only [decode, decodeHostOp, hw, if_true]
  split
  next hctrl => rw [hctrl]; exact exec_decodeCtrl _ s
  next =>
    split
    next hencode => rw [hencode]; rfl
    next =>
      split
      next hdecode => rw [hdecode]; rfl
      next => rfl

/-! Held beats (R91, R92). -/

theorem hexInReady_eq_false_iff (s : State) : hexInReady s = false ↔
    s.hex.state ≠ .run ∨ s.hex.outq ≠ [] := by
  rw [← Bool.not_eq_true, hexInReady_iff, not_and_or]

theorem rldInReady_eq_false_iff (s : State) : rldInReady s = false ↔
    s.rld.state ≠ .run ∨ s.rld.outq ≠ [] := by
  rw [← Bool.not_eq_true, rldInReady_iff, not_and_or]

/-- Settles O8: a beat's meaning is `hexBeat` or `rldBeat` of its operation, and neither runs it when held. -/
theorem unacceptedBeatChangesNothing : Obligations.UnacceptedBeatChangesNothing := by
  refine ⟨fun w s held => ?_, fun w s held => ?_⟩
  · rw [exec_decode_hexBeat]
    exact hexBeat_held _ s ((hexInReady_eq_false_iff s).2 held)
  · rw [exec_decode_rldBeat]
    exact rldBeat_held _ s ((rldInReady_eq_false_iff s).2 held)

/-! One turn of each kind (R93). -/

section
variable {s : State} {ts : List Turn}

theorem step_idle (hs : s.schedule = []) : step s = .next s := by simp only [step, fetch, hs]

/-- A turn that brings no instruction leaves its state. -/
theorem step_of_nothing {t : Turn} {u : State} (hs : s.schedule = t :: ts)
    (h : takeTurn t { s with schedule := ts } = .nothing u) : step s = .next u := by
  simp only [step, fetch, hs, h]

/-- A turn that brings an instruction runs it. -/
theorem step_of_instr {t : Turn} {i : Instr} {u : State} (hs : s.schedule = t :: ts)
    (h : takeTurn t { s with schedule := ts } = .instr i u) : step s = exec i u := by
  simp only [step, fetch, hs, h]

theorem step_host {w : BitVec 41} {ws : List (BitVec 41)} (hs : s.schedule = .host :: ts)
    (hin : s.hostIn = w :: ws) :
    step s = exec (decode (.hostOp w)) { s with schedule := ts, hostIn := ws } :=
  step_of_instr hs (by simp only [takeTurn, hin])

theorem step_hexIn_ready {w : BitVec 9} {ws : List (BitVec 9)} (hs : s.schedule = .hexIn :: ts)
    (hin : s.hexIn = w :: ws) (ready : hexInReady s = true) :
    step s = exec (decode (.hexBeat w)) { s with schedule := ts, hexIn := ws } :=
  step_of_instr hs (by simp only [takeTurn, hin]; exact if_pos ready)

theorem step_rldIn_ready {w : BitVec 9} {ws : List (BitVec 9)} (hs : s.schedule = .rldIn :: ts)
    (hin : s.rldIn = w :: ws) (ready : rldInReady s = true) :
    step s = exec (decode (.rldBeat w)) { s with schedule := ts, rldIn := ws } :=
  step_of_instr hs (by simp only [takeTurn, hin]; exact if_pos ready)

theorem step_hexIn_held (hs : s.schedule = .hexIn :: ts) (held : hexInReady s = false) :
    step s = .next { s with schedule := ts } := by
  refine step_of_nothing hs ?_
  cases s.hexIn with
  | nil => rfl
  | cons w ws => exact if_neg (Bool.eq_false_iff.1 held)

theorem step_rldIn_held (hs : s.schedule = .rldIn :: ts) (held : rldInReady s = false) :
    step s = .next { s with schedule := ts } := by
  refine step_of_nothing hs ?_
  cases s.rldIn with
  | nil => rfl
  | cons w ws => exact if_neg (Bool.eq_false_iff.1 held)

theorem step_hexOut (hs : s.schedule = .hexOut :: ts) :
    step s = .next (takeHexOut { s with schedule := ts }) := step_of_nothing hs rfl

theorem step_rldOut (hs : s.schedule = .rldOut :: ts) :
    step s = .next (takeRldOut { s with schedule := ts }) := step_of_nothing hs rfl

end

/-- Settles O6: the turn of each input port. -/
theorem stepRunsThePresentedInput : Obligations.StepRunsThePresentedInput :=
  ⟨fun _ _ _ _ hs hin => step_host hs hin,
    fun s _ _ _ hs hin hrun hq => step_hexIn_ready hs hin ((hexInReady_iff s).2 ⟨hrun, hq⟩),
    fun s _ _ _ hs hin hrun hq => step_rldIn_ready hs hin ((rldInReady_iff s).2 ⟨hrun, hq⟩)⟩

/-- Settles O7: the turn of each held stream, and the empty schedule. -/
theorem heldBeatStaysPresented : Obligations.HeldBeatStaysPresented :=
  ⟨fun s _ hs held => step_hexIn_held hs ((hexInReady_eq_false_iff s).2 held),
    fun s _ hs held => step_rldIn_held hs ((rldInReady_eq_false_iff s).2 held),
    fun _ hs => step_idle hs⟩

/-! The consumers (R82, R93). -/

theorem takeHexOut_empty {s : State} (hq : s.hex.outq = []) : takeHexOut s = s := by
  have htail : s.hex.outq.tail = s.hex.outq := by rw [hq]; rfl
  rw [takeHexOut, htail]
  rfl

theorem takeRldOut_empty {s : State} (hq : s.rld.outq = []) : takeRldOut s = s := by
  have htail : s.rld.outq.tail = s.rld.outq := by rw [hq]; rfl
  rw [takeRldOut, htail]
  rfl

/-- Settles O9: the turn of each consumer, with a beat queued and with none. -/
theorem consumersTakeTheOldestBeat : Obligations.ConsumersTakeTheOldestBeat := by
  refine ⟨fun s b bs ts hs hq => ⟨?_, ?_⟩, fun s b bs ts hs hq => ⟨?_, ?_⟩, fun s ts hs hq => ?_,
    fun s ts hs hq => ?_⟩
  · rw [hexOutBeat, hq, List.head?_cons]
  · rw [step_hexOut hs, takeHexOut, hq]
    rfl
  · rw [rldOutBeat, hq, List.head?_cons]
  · rw [step_rldOut hs, takeRldOut, hq]
    rfl
  · rw [step_hexOut hs, takeHexOut_empty (s := { s with schedule := ts }) hq]
  · rw [step_rldOut hs, takeRldOut_empty (s := { s with schedule := ts }) hq]

/-! Bus errors (R84). -/

theorem exec_csrRead_busError {a : BitVec 8} (ha : busError a = true) (d : Word32) (s : State) :
    exec (.csrRead a d) s = .next (s.withReply (.read 0 true)) := by
  show Host.Outcome.next (csrRead a s) = _
  rw [csrRead, if_pos ha]

/-- A write to an aligned and mapped address answers without error, CTRL and the RO registers included. -/
theorem hostWrite_reply {a : BitVec 8} (ha : busError a = false) (d : Word32) (s : State) :
    (hostWrite a d s).reply = some (.write false) := by
  rcases hostWrite_cases a d s with ⟨-, hw⟩ | ⟨-, herr, -⟩ | ⟨-, -, hw⟩
  · rw [hw, ctrlWrite_reply]
  · exact absurd (ha.symm.trans herr) (by decide)
  · rw [hw]
    rfl

/-- Settles O31: a read and a write, with a bus error and without. -/
theorem busErrorsChangeNothing : Obligations.BusErrorsChangeNothing := by
  intro a d s
  rw [← busError_iff, Bool.not_eq_true]
  refine ⟨fun ha => ⟨exec_csrRead_busError ha d s, ?_⟩, fun ha => ⟨⟨csrView a s, exec_csrRead ha d s⟩,
    hostWrite a d s, exec_csrWrite a d s, hostWrite_reply ha d s⟩⟩
  rw [exec_csrWrite, hostWrite_busError ha]

/-! Every step by its turn (R93). -/

/-- What a step from `s` can leave, with the turn and the input it used; an idle or held turn is `idle`, which
changes the schedule alone. -/
inductive TurnTaken (s : State) : State → Prop
  | idle (ts : List Turn) : TurnTaken s { s with schedule := ts }
  | hostRead {w : BitVec 41} {ws : List (BitVec 41)} {ts : List Turn} (hs : s.schedule = .host :: ts)
      (hin : s.hostIn = w :: ws) :
      TurnTaken s (csrRead (w.extractLsb' 32 8) { s with schedule := ts, hostIn := ws })
  | hostWrite {w : BitVec 41} {ws : List (BitVec 41)} {ts : List Turn} (hs : s.schedule = .host :: ts)
      (hin : s.hostIn = w :: ws) (hw : w.getLsbD 40 = true) :
      TurnTaken s (hostWrite (w.extractLsb' 32 8) (w.extractLsb' 0 32) { s with schedule := ts, hostIn := ws })
  | hexBeat {w : BitVec 9} {ws : List (BitVec 9)} {ts : List Turn} (hs : s.schedule = .hexIn :: ts)
      (hin : s.hexIn = w :: ws) (hrun : s.hex.state = .run) (hq : s.hex.outq = []) :
      TurnTaken s (({ s with schedule := ts, hexIn := ws } : State).withHex
        (hexByte (w.getLsbD 8) (w.extractLsb' 0 8) s.hex))
  | rldBeat {w : BitVec 9} {ws : List (BitVec 9)} {ts : List Turn} (hs : s.schedule = .rldIn :: ts)
      (hin : s.rldIn = w :: ws) (hrun : s.rld.state = .run) (hq : s.rld.outq = []) :
      TurnTaken s (({ s with schedule := ts, rldIn := ws } : State).withRld (beatOp w s.rld))
  | hexOut {ts : List Turn} (hs : s.schedule = .hexOut :: ts) : TurnTaken s (takeHexOut { s with schedule := ts })
  | rldOut {ts : List Turn} (hs : s.schedule = .rldOut :: ts) : TurnTaken s (takeRldOut { s with schedule := ts })
  | rst {ts : List Turn} (hs : s.schedule = .rst :: ts) : TurnTaken s (resetBlock { s with schedule := ts })

theorem step_turnTaken {s t : State} (h : step s = .next t) : TurnTaken s t := by
  cases hs : s.schedule with
  | nil =>
    cases (step_idle hs).symm.trans h
    exact .idle s.schedule
  | cons turn ts =>
    rcases takeTurn_cases turn { s with schedule := ts } with ⟨w, ws, rfl, hin, ht⟩ |
      ⟨w, ws, rfl, hin, ready, ht⟩ | ⟨w, ws, rfl, hin, ready, ht⟩ | ⟨rfl, -⟩ | ⟨rfl, -⟩ | ⟨rfl, -⟩ | ht
    · have hexec := (step_of_instr hs ht).symm.trans h
      cases hw : w.getLsbD 40 with
      | false => cases (exec_decode_hostRead hw _).symm.trans hexec; exact .hostRead hs hin
      | true => cases (exec_decode_hostWrite hw _).symm.trans hexec; exact .hostWrite hs hin hw
    · have hexec := (step_of_instr hs ht).symm.trans h
      obtain ⟨hrun, hq⟩ := (hexInReady_iff s).1 ready
      have ready' : hexInReady { s with schedule := ts, hexIn := ws } = true := ready
      rw [exec_decode_hexBeat] at hexec
      cases (hexBeat_ready _ _ ready').symm.trans hexec
      exact .hexBeat hs hin hrun hq
    · have hexec := (step_of_instr hs ht).symm.trans h
      obtain ⟨hrun, hq⟩ := (rldInReady_iff s).1 ready
      have ready' : rldInReady { s with schedule := ts, rldIn := ws } = true := ready
      rw [exec_decode_rldBeat] at hexec
      cases (rldBeat_ready _ _ ready').symm.trans hexec
      exact .rldBeat hs hin hrun hq
    · cases (step_hexOut hs).symm.trans h; exact .hexOut hs
    · cases (step_rldOut hs).symm.trans h; exact .rldOut hs
    · cases (step_rst hs).symm.trans h; exact .rst hs
    · cases (step_of_nothing hs ht).symm.trans h; exact .idle ts

end Sys2Proof.Machine
end

section
/-! What every step keeps of the RLD's configuration, of a stopped RLD and of the output queues (R91..R94, R249,
R253, R370, R380, R383). -/

namespace Sys2Proof.Machine

/-! A host write at the units. -/

/-- What a host write does to the RLD: nothing, or the start or the abort of a CTRL write (R244, R302). -/
theorem hostWrite_rld_cases (a : BitVec 8) (d : Word32) (s : State) :
    (hostWrite a d s).rld = s.rld ∨
    (a = 0x00#8 ∧ d.getLsbD 8 = true ∧ (hostWrite a d s).rld = rldStart (ctrlWrite d s).csr s.rld) ∨
    (a = 0x00#8 ∧ d.getLsbD 8 = false ∧ d.getLsbD 9 = true ∧ (hostWrite a d s).rld = rldAbort s.rld) := by
  rcases hostWrite_cases a d s with ⟨ha, hw⟩ | ⟨-, -, hw⟩ | ⟨-, -, hw⟩ <;> rw [hw]
  · rw [ctrlWrite_rld]
    split
    next hstart => exact .inr (.inl ⟨ha, hstart, rfl⟩)
    next hstart =>
      split
      next habort => exact .inr (.inr ⟨ha, Bool.eq_false_iff.2 hstart, habort, rfl⟩)
      next => exact .inl rfl
  · exact .inl rfl
  · exact .inl rfl

theorem rldStart_outq (c : Csr) (u : RldUnit) : (rldStart c u).outq = u.outq := by
  rcases rldStart_cases c u with ⟨-, he⟩ | ⟨-, -, he⟩ | ⟨-, -, -, he⟩ | ⟨-, -, -, -, he⟩ |
    ⟨-, -, -, -, he⟩ <;> rw [he] <;> rfl

theorem hexStart_outq (c : Csr) (u : HexUnit) : (hexStart c u).outq = u.outq := by
  rcases hexStart_cases c u with ⟨-, he⟩ | ⟨-, he⟩ <;> rw [he]

/-- Starts, aborts and stops keep the output queued (R383). -/
theorem hostWrite_rld_outq (a : BitVec 8) (d : Word32) (s : State) : (hostWrite a d s).rld.outq = s.rld.outq := by
  rcases hostWrite_rld_cases a d s with hr | ⟨-, -, hr⟩ | ⟨-, -, -, hr⟩ <;> rw [hr]
  · exact rldStart_outq _ s.rld
  · rfl

theorem hostWrite_hex_outq (a : BitVec 8) (d : Word32) (s : State) : (hostWrite a d s).hex.outq = s.hex.outq := by
  rcases hostWrite_cases a d s with ⟨-, hw⟩ | ⟨-, -, hw⟩ | ⟨-, -, hw⟩ <;> rw [hw]
  · rw [ctrlWrite_hex]
    split
    · exact hexStart_outq _ s.hex
    · split <;> rfl
  · rfl
  · rfl

/-- The data of a host access are its low bits (R110). -/
theorem hostData_getLsbD {w : BitVec 41} {i : Nat} (hi : i < 32) :
    (w.extractLsb' 0 32).getLsbD i = w.getLsbD i := by
  simp [hi]

/-! The latched configuration (R94). -/

/-- What RLD_START latches of the configuration, with the height it computes (R241). -/
def RldUnit.config (u : RldUnit) : BitVec 16 × Word32 × Bool × Word32 := (u.rb, u.height, u.pix, u.bodylen)

theorem RldUnit.config_eq_iff (u v : RldUnit) : v.config = u.config ↔
    v.rb = u.rb ∧ v.height = u.height ∧ v.pix = u.pix ∧ v.bodylen = u.bodylen := by
  simp [RldUnit.config]

theorem addMult_config (v : Nat) (u : RldUnit) : (addMult v u).config = u.config := by
  rcases addMult_cases v u with ⟨-, he⟩ | ⟨-, he⟩ <;> rw [he] <;> rfl

theorem placeData_config (n : Nibble) (u : RldUnit) : (placeData n u).config = u.config := by
  rcases placeData_cases n u with ⟨-, he⟩ | ⟨-, he⟩ | ⟨-, he⟩ <;> rw [he] <;> rfl

theorem fillRow_config (n : Nibble) (u : RldUnit) : (fillRow n u).config = u.config := by
  rcases fillRow_cases n u with ⟨-, he⟩ | ⟨-, he⟩ <;> rw [he] <;> rfl

theorem repeatPrev_config (u : RldUnit) : (repeatPrev u).config = u.config := by
  rcases repeatPrev_cases u with ⟨-, he⟩ | ⟨-, -, he⟩ | ⟨-, -, -, he⟩ | ⟨-, -, -, he⟩ <;> rw [he] <;> rfl

theorem charBody_config {f : RldUnit → RldUnit} (hf : ∀ v, (f v).config = v.config) (u : RldUnit) :
    (charBody f u).config = u.config := by
  rcases charBody_cases f u with ⟨-, he⟩ | ⟨-, he⟩ <;> rw [he]
  · rfl
  · exact hf u.countChar

theorem endBody_config (u : RldUnit) : (endBody u).config = u.config := by
  rcases endBody_cases u with ⟨-, he⟩ | ⟨-, -, he⟩ | ⟨-, -, -, -, he⟩ | ⟨-, -, -, he⟩ <;> rw [he] <;> rfl

/-- No beat changes the configuration of the run it belongs to. -/
theorem RldOp.keeps_config {f : RldUnit → RldUnit} (op : RldOp f) (u : RldUnit) : (f u).config = u.config := by
  cases op with
  | invalid => rfl
  | skip => rfl
  | mult v => exact charBody_config (addMult_config v) u
  | data n => exact charBody_config (placeData_config n) u
  | fill n => exact charBody_config (fillRow_config n) u
  | repeatRow => exact charBody_config repeatPrev_config u
  | endBeat => exact endBody_config u

theorem TurnTaken.keeps_config_or_starts {s t : State} (h : TurnTaken s t) : t.rld.config = s.rld.config ∨
    ∃ ts, s.schedule = .rst :: ts ∨
      (∃ w ws, s.schedule = .host :: ts ∧ s.hostIn = w :: ws ∧ w.getLsbD 40 = true ∧
        w.extractLsb' 32 8 = 0x00#8 ∧ w.getLsbD 8 = true) := by
  cases h with
  | idle => exact .inl rfl
  | hostRead => exact .inl rfl
  | @hostWrite w ws ts hs hin hw =>
    rcases hostWrite_rld_cases (w.extractLsb' 32 8) (w.extractLsb' 0 32)
      { s with schedule := ts, hostIn := ws } with hr | ⟨ha, hstart, -⟩ | ⟨-, -, -, hr⟩
    · exact .inl (by rw [hr])
    · rw [hostData_getLsbD (by decide)] at hstart
      exact .inr ⟨ts, .inr ⟨w, ws, hs, hin, hw, ha, hstart⟩⟩
    · exact .inl (by rw [hr]; rfl)
  | hexBeat => exact .inl rfl
  | @rldBeat w => exact .inl ((rldOp_beatOp w).keeps_config s.rld)
  | hexOut => exact .inl rfl
  | rldOut => exact .inl rfl
  | @rst ts hs => exact .inr ⟨ts, .inl hs⟩

/-- Settles O42, by the turn that the step takes. -/
theorem rldConfigurationIsLatched : Obligations.RldConfigurationIsLatched := by
  intro s t h changed
  refine (step_turnTaken h).keeps_config_or_starts.resolve_left fun hconfig => ?_
  obtain ⟨hrb, hheight, hpix, hbodylen⟩ := (RldUnit.config_eq_iff _ _).1 hconfig
  simp [hrb, hheight, hpix, hbodylen] at changed

/-! The RLD outside RUN (R92, R249, R253). -/

/-- `v` is `u` but for its output queue, and the queue too where it was empty. -/
def SameButTaken (u v : RldUnit) : Prop := v = { u with outq := v.outq } ∧ (u.outq = [] → v = u)

theorem SameButTaken.refl (u : RldUnit) : SameButTaken u u := ⟨rfl, fun _ => rfl⟩

theorem sameButTaken_takeRldOut (s : State) : SameButTaken s.rld (takeRldOut s).rld :=
  ⟨rfl, fun hq => by rw [takeRldOut_empty hq]⟩

theorem outq_eq_nil_of_rldRunEnded {s : State} (h : rldRunEnded s = true) : s.rld.outq = [] := by
  simp only [rldRunEnded, Bool.and_eq_true, List.isEmpty_iff] at h
  exact h.2

theorem TurnTaken.sameButTaken_or_pulsed {s t : State} (h : TurnTaken s t) (hstop : s.rld.state ≠ .run) :
    (∃ ts, s.schedule = .rst :: ts ∨
      (∃ w ws, s.schedule = .host :: ts ∧ s.hostIn = w :: ws ∧ w.getLsbD 40 = true ∧
        w.extractLsb' 32 8 = 0x00#8 ∧ (w.getLsbD 8 = true ∨ w.getLsbD 9 = true))) ∨
    SameButTaken s.rld t.rld := by
  cases h with
  | idle => exact .inr (.refl _)
  | hostRead => exact .inr (.refl _)
  | @hostWrite w ws ts hs hin hw =>
    rcases hostWrite_rld_cases (w.extractLsb' 32 8) (w.extractLsb' 0 32)
      { s with schedule := ts, hostIn := ws } with hr | ⟨ha, hstart, -⟩ | ⟨ha, -, habort, -⟩
    · rw [hr]
      exact .inr (.refl _)
    · rw [hostData_getLsbD (by decide)] at hstart
      exact .inl ⟨ts, .inr ⟨w, ws, hs, hin, hw, ha, .inl hstart⟩⟩
    · rw [hostData_getLsbD (by decide)] at habort
      exact .inl ⟨ts, .inr ⟨w, ws, hs, hin, hw, ha, .inr habort⟩⟩
  | hexBeat => exact .inr (.refl _)
  | rldBeat _ _ hrun _ => exact absurd hrun hstop
  | hexOut => exact .inr (.refl _)
  | rldOut => exact .inr (sameButTaken_takeRldOut { s with schedule := _ })
  | @rst ts hs => exact .inl ⟨ts, .inl hs⟩

/-- Settles O44, by the turn that the step takes. -/
theorem rldOutsideRunIsStable : Obligations.RldOutsideRunIsStable := by
  intro s t h hstop
  exact ((step_turnTaken h).sameButTaken_or_pulsed hstop).imp_right fun ⟨hframe, hempty⟩ =>
    ⟨hframe, fun hended => hempty (outq_eq_nil_of_rldRunEnded hended)⟩

/-! The output queues (R91, R93, R383). -/

theorem TurnTaken.rld_outq_cases {s t : State} (h : TurnTaken s t) : t.rld.outq = s.rld.outq ∨
    (∃ w ws ts, s.schedule = .rldIn :: ts ∧ s.rldIn = w :: ws ∧ t.rldIn = ws ∧
      s.rld.state = .run ∧ s.rld.outq = []) ∨
    (∃ ts, s.schedule = .rldOut :: ts ∧ t.rld.outq = s.rld.outq.tail) ∨
    (∃ ts, s.schedule = .rst :: ts ∧ t.rld.outq = []) := by
  cases h with
  | idle => exact .inl rfl
  | hostRead => exact .inl rfl
  | hostWrite => exact .inl (hostWrite_rld_outq _ _ _)
  | hexBeat => exact .inl rfl
  | rldBeat hs hin hrun hq => exact .inr (.inl ⟨_, _, _, hs, hin, rfl, hrun, hq⟩)
  | hexOut => exact .inl rfl
  | rldOut hs => exact .inr (.inr (.inl ⟨_, hs, rfl⟩))
  | rst hs => exact .inr (.inr (.inr ⟨_, hs, rfl⟩))

theorem TurnTaken.hex_outq_cases {s t : State} (h : TurnTaken s t) : t.hex.outq = s.hex.outq ∨
    (∃ w ws ts, s.schedule = .hexIn :: ts ∧ s.hexIn = w :: ws ∧ t.hexIn = ws ∧
      s.hex.state = .run ∧ s.hex.outq = []) ∨
    (∃ ts, s.schedule = .hexOut :: ts ∧ t.hex.outq = s.hex.outq.tail) ∨
    (∃ ts, s.schedule = .rst :: ts ∧ t.hex.outq = []) := by
  cases h with
  | idle => exact .inl rfl
  | hostRead => exact .inl rfl
  | hostWrite => exact .inl (hostWrite_hex_outq _ _ _)
  | hexBeat hs hin hrun hq => exact .inr (.inl ⟨_, _, _, hs, hin, rfl, hrun, hq⟩)
  | rldBeat => exact .inl rfl
  | hexOut hs => exact .inr (.inr (.inl ⟨_, hs, rfl⟩))
  | rldOut => exact .inl rfl
  | rst hs => exact .inr (.inr (.inr ⟨_, hs, rfl⟩))

/-- Settles O45, by the turn that the step takes. -/
theorem outputQueuesAreFirstInFirstOut : Obligations.OutputQueuesAreFirstInFirstOut := fun _ _ h =>
  ⟨(step_turnTaken h).rld_outq_cases, (step_turnTaken h).hex_outq_cases⟩

end Sys2Proof.Machine
end

section
/-! The encoder and the decoder undo each other, format by format: an RLDBEAT and a HEXBEAT are a bit and a byte, a
HOSTOP is three fields (R110, R112, R113, R122). -/

namespace Sys2Proof.Machine

/-! The fields of the three formats (R110): reading a field of a word made of fields, and a word made of the fields
read from it. -/

theorem getLsbD_ofBool_append {n : Nat} (b : Bool) (x : BitVec n) : (BitVec.ofBool b ++ x).getLsbD n = b := by
  rw [BitVec.getLsbD_append]
  simp

theorem ofBool_getLsbD {n : Nat} (x : BitVec n) (k : Nat) :
    BitVec.ofBool (x.getLsbD k) = x.extractLsb' k 1 := by
  ext i hi
  simp [show i = 0 by omega]

/-- A beat is its top bit before its byte. -/
theorem beat_of_fields (w : BitVec 9) : BitVec.ofBool (w.getLsbD 8) ++ w.extractLsb' 0 8 = w := by
  rw [ofBool_getLsbD]
  exact BitVec.extractLsb'_append_extractLsb'

theorem hostOpWord_write (wr : Bool) (a : BitVec 8) (d : Word32) :
    (hostOpWord wr a d).getLsbD 40 = wr := by
  rw [hostOpWord, BitVec.getLsbD_append]
  exact getLsbD_ofBool_append wr a

theorem hostOpWord_addr (wr : Bool) (a : BitVec 8) (d : Word32) :
    (hostOpWord wr a d).extractLsb' 32 8 = a := by
  rw [hostOpWord, BitVec.extractLsb'_append_eq_of_le (by decide)]
  exact BitVec.extractLsb'_append_eq_right

theorem hostOpWord_data (wr : Bool) (a : BitVec 8) (d : Word32) :
    (hostOpWord wr a d).extractLsb' 0 32 = d :=
  BitVec.extractLsb'_append_eq_right

theorem hostOpWord_of_fields (w : BitVec 41) :
    hostOpWord (w.getLsbD 40) (w.extractLsb' 32 8) (w.extractLsb' 0 32) = w := by
  rw [hostOpWord, ofBool_getLsbD,
    BitVec.extractLsb'_append_extractLsb'_eq_extractLsb' (start₁ := 32) (len₁ := 8) rfl]
  exact BitVec.extractLsb'_append_extractLsb'

/-! What the decoder makes of a word given by its fields (R110, R112, R122). -/

theorem decode_charBeat (c : BitVec 8) : decode (charBeat c) = decodeChar c := by
  have hend : (0#1 ++ c).getLsbD 8 = false := getLsbD_ofBool_append false c
  simp only [charBeat, decode, decodeRldBeat, hend, BitVec.extractLsb'_append_eq_right]
  rfl

theorem decode_endBeat (c : BitVec 8) : decode (.rldBeat (1#1 ++ c)) = .endBeat c := by
  have hend : (1#1 ++ c).getLsbD 8 = true := getLsbD_ofBool_append true c
  simp only [decode, decodeRldBeat, hend, BitVec.extractLsb'_append_eq_right]
  rfl

theorem decode_hexBeat (last : Bool) (b : BitVec 8) :
    decode (.hexBeat (BitVec.ofBool last ++ b)) = .hexByte last b := by
  simp only [decode, decodeHexBeat, getLsbD_ofBool_append, BitVec.extractLsb'_append_eq_right]

theorem decode_hostRead (a : BitVec 8) (d : Word32) :
    decode (.hostOp (hostOpWord false a d)) = .csrRead a d := by
  simp only [decode, decodeHostOp, hostOpWord_write, hostOpWord_addr, hostOpWord_data]
  rfl

/-- A write is named by its address: CTRL by its data, LUT_COUNT and LUT_CHAR by rows of their own (log 7). -/
theorem decode_hostWrite (a : BitVec 8) (d : Word32) :
    decode (.hostOp (hostOpWord true a d)) =
      if a = 0x00#8 then decodeCtrl d
      else if a = 0x30#8 then .lutEncode d
      else if a = 0x38#8 then .lutDecode d
      else .csrWrite a d := by
  simp only [decode, decodeHostOp, hostOpWord_write, hostOpWord_addr, hostOpWord_data, if_true]

theorem decode_ctrl (d : Word32) : decode (.hostOp (hostOpWord true 0x00#8 d)) = decodeCtrl d :=
  decode_hostWrite 0x00#8 d

/-! The five names of a CTRL write (log 6): the data that each of them admits is the data that it is read from. -/

theorem decodeCtrl_hexStop {d : Word32} (h : isHexStopData d = true) : decodeCtrl d = .hexStop d := by
  simp only [isHexStopData, Bool.and_eq_true, Bool.not_eq_true'] at h
  simp only [decodeCtrl, h]

theorem decodeCtrl_hexStart {d : Word32} (h : isHexStartData d = true) : decodeCtrl d = .hexStart d := by
  simp only [isHexStartData, Bool.and_eq_true, Bool.not_eq_true'] at h
  simp only [decodeCtrl, h]

theorem decodeCtrl_rldStart {d : Word32} (h : isRldStartData d = true) : decodeCtrl d = .rldStart d := by
  simp only [isRldStartData, Bool.and_eq_true, Bool.not_eq_true'] at h
  simp only [decodeCtrl, h]

theorem decodeCtrl_rldAbort {d : Word32} (h : isRldAbortData d = true) : decodeCtrl d = .rldAbort d := by
  simp only [isRldAbortData, Bool.and_eq_true, Bool.not_eq_true'] at h
  simp only [decodeCtrl, h]

theorem decodeCtrl_ctrlWrite {d : Word32} (h : isCtrlWriteData d = true) : decodeCtrl d = .ctrlWrite d := by
  simp only [isCtrlWriteData, Bool.and_eq_true, Bool.or_eq_true] at h
  obtain ⟨hen, hstart | habort⟩ := h
  · simp only [decodeCtrl, hen, hstart]
  · cases hstart : d.getLsbD 8 <;> simp only [decodeCtrl, hen, hstart, habort]

theorem encode_decodeCtrl (d : Word32) : encode (decodeCtrl d) = .hostOp (hostOpWord true 0x00#8 d) := by
  unfold decodeCtrl
  split <;> rfl

theorem wellFormed_decodeCtrl (d : Word32) : wellFormed (decodeCtrl d) = true := by
  unfold decodeCtrl
  split
  next hen hstart habort => simp only [wellFormed, isHexStopData, hen, hstart, habort]; rfl
  next hen hstart => simp only [wellFormed, isRldStartData, hen, hstart]; rfl
  next hen hstart habort => simp only [wellFormed, isRldAbortData, hen, hstart, habort]; rfl
  next hen hstart habort => simp only [wellFormed, isHexStartData, hen, hstart, habort]; rfl
  next hen hpulse => simpa [wellFormed, isCtrlWriteData, hen, or_iff_not_imp_left] using hpulse

theorem csrWriteAddr_iff (a : BitVec 8) :
    isCsrWriteAddr a = true ↔ a ≠ 0x00#8 ∧ a ≠ 0x30#8 ∧ a ≠ 0x38#8 := by
  simp [isCsrWriteAddr, and_assoc]

/-! The body character map (R113): the row of code `n` is encoded as the Char beat of code `n`. -/

/-- What holds of the rows of the map in code order, a quarter of them at a time, holds of the row of each code. -/
theorem apply_decodeChar {α : Type} {f : Instr → α} {g : Nat → α}
    (h0 : charRowsLow.map f = (List.range' 0 64).map g)
    (h64 : charRowsLetters.map f = (List.range' 64 64).map g)
    (h128 : (charRowsHigh.take 64).map f = (List.range' 128 64).map g)
    (h192 : (charRowsHigh.drop 64).map f = (List.range' 192 64).map g) (c : BitVec 8) :
    f (decodeChar c) = g c.toNat := by
  have h : (charRowsLow ++ charRowsLetters ++ charRowsHigh).map f = (List.range' 0 256).map g := by
    rw [← List.take_append_drop 64 charRowsHigh]
    simp only [List.map_append, h0, h64, h128, h192]
    rfl
  have hc := congrArg (·[c.toNat]?) h
  simp only [List.getElem?_map, List.getElem?_range' c.isLt, Option.map_some] at hc
  obtain ⟨i, hi, hf⟩ := Option.map_eq_some_iff.1 hc
  rw [decodeChar, hi]
  simpa using hf

theorem encode_decodeChar (c : BitVec 8) : encode (decodeChar c) = charBeat c := by
  simpa using apply_decodeChar (f := encode) (g := fun n => charBeat (BitVec.ofNat 8 n)) rfl rfl rfl rfl c

theorem wellFormed_decodeChar (c : BitVec 8) : wellFormed (decodeChar c) = true :=
  apply_decodeChar (f := wellFormed) (g := fun _ => true) rfl rfl rfl rfl c

/-- Settles O1, by the rows of the opcode table: a row with operands by the fields of its format, a Char row by its
place in the body character map. -/
theorem encodeThenDecodeGivesTheInstruction : Obligations.EncodeThenDecodeGivesTheInstruction := by
  intro i hwf
  cases i with
  | endBeat c => exact decode_endBeat c
  | hexByte last b => exact decode_hexBeat last b
  | csrRead a d => exact decode_hostRead a d
  | csrWrite a d =>
    obtain ⟨hctrl, hencode, hdecode⟩ := (csrWriteAddr_iff a).1 hwf
    exact (decode_hostWrite a d).trans (by rw [if_neg hctrl, if_neg hencode, if_neg hdecode])
  | ctrlWrite d => exact (decode_ctrl d).trans (decodeCtrl_ctrlWrite hwf)
  | hexStart d => exact (decode_ctrl d).trans (decodeCtrl_hexStart hwf)
  | hexStop d => exact (decode_ctrl d).trans (decodeCtrl_hexStop hwf)
  | rldStart d => exact (decode_ctrl d).trans (decodeCtrl_rldStart hwf)
  | rldAbort d => exact (decode_ctrl d).trans (decodeCtrl_rldAbort hwf)
  | lutEncode d => exact decode_hostWrite 0x30#8 d
  | lutDecode d => exact decode_hostWrite 0x38#8 d
  | _ => rfl

/-- An input is the encoding of the well-formed instruction that it decodes to. -/
def ReadsBack (x : Input) : Prop := wellFormed (decode x) = true ∧ encode (decode x) = x

theorem readsBack_rldBeat (w : BitVec 9) : ReadsBack (.rldBeat w) := by
  rw [← beat_of_fields w]
  cases w.getLsbD 8
  case false =>
    show ReadsBack (charBeat _)
    rw [ReadsBack, decode_charBeat]
    exact ⟨wellFormed_decodeChar _, encode_decodeChar _⟩
  case true =>
    show ReadsBack (.rldBeat (1#1 ++ _))
    rw [ReadsBack, decode_endBeat]
    exact ⟨rfl, rfl⟩

theorem readsBack_hexBeat (w : BitVec 9) : ReadsBack (.hexBeat w) :=
  ⟨rfl, congrArg Input.hexBeat (beat_of_fields w)⟩

theorem readsBack_hostRead (a : BitVec 8) (d : Word32) : ReadsBack (.hostOp (hostOpWord false a d)) := by
  rw [ReadsBack, decode_hostRead]
  exact ⟨rfl, rfl⟩

theorem readsBack_hostWrite (a : BitVec 8) (d : Word32) : ReadsBack (.hostOp (hostOpWord true a d)) := by
  rw [ReadsBack, decode_hostWrite]
  split_ifs with hctrl hencode hdecode
  · rw [hctrl]; exact ⟨wellFormed_decodeCtrl d, encode_decodeCtrl d⟩
  · rw [hencode]; exact ⟨rfl, rfl⟩
  · rw [hdecode]; exact ⟨rfl, rfl⟩
  · exact ⟨(csrWriteAddr_iff a).2 ⟨hctrl, hencode, hdecode⟩, rfl⟩

theorem readsBack_hostOp (w : BitVec 41) : ReadsBack (.hostOp w) := by
  rw [← hostOpWord_of_fields w]
  cases w.getLsbD 40
  case false => exact readsBack_hostRead _ _
  case true => exact readsBack_hostWrite _ _

/-- Settles O2, format by format. -/
theorem decodeThenEncodeGivesTheInput : Obligations.DecodeThenEncodeGivesTheInput
  | .rldBeat w => readsBack_rldBeat w
  | .hexBeat w => readsBack_hexBeat w
  | .hostOp w => readsBack_hostOp w

/-- Settles O3: a Char beat means the operation of its class, class by class. -/
theorem charBeatActsByItsClass : Obligations.CharBeatActsByItsClass := by
  intro c s
  rw [decode_charBeat, exec_decodeChar]
  cases classOf c <;> rfl

/-- Settles O4, by running the decoder on each word. -/
theorem sampleInputsDecode : Obligations.SampleInputsDecode := by
  unfold Obligations.SampleInputsDecode
  decide

/-- Settles O5: a beat with END set means `endBody` alone, and `csrRead` is given no data. -/
theorem ignoredBitsHaveNoEffect : Obligations.IgnoredBitsHaveNoEffect := by
  refine ⟨fun w s hend => ?_, fun _ _ _ => rfl⟩
  rw [exec_decode_rldBeat, beatOp, if_pos hend]
  rfl

end Sys2Proof.Machine
end

section
/-! The alphabet lookup: the multiplier characters and their counts, the token of a count, and the two lookups as
the host reads them (R48, R50, R153..R157, R303). -/

namespace Sys2Proof.Machine

/-! The multiplier characters (R153, R156). -/

theorem alutLow_toNat {r : Nat} (hr : r ≤ 19) : (alutLow r).toNat = 0x46 + r := by
  rw [alutLow, BitVec.toNat_ofNat, Nat.mod_eq_of_lt (by omega)]

theorem alutHigh_toNat {k : Nat} (hk : k ≤ 20) : (alutHigh k).toNat = 0x66 + k := by
  rw [alutHigh, BitVec.toNat_ofNat, Nat.mod_eq_of_lt (by omega)]

theorem alutDecode_alutLow {r : Nat} (h1 : 1 ≤ r) (hr : r ≤ 19) : alutDecode (alutLow r) = some r := by
  rw [alutDecode, alutLow_toNat hr, if_pos (by omega), Nat.add_sub_cancel_left]

theorem alutDecode_alutHigh {k : Nat} (h1 : 1 ≤ k) (hk : k ≤ 20) :
    alutDecode (alutHigh k) = some (20 * k) := by
  rw [alutDecode, alutHigh_toNat hk, if_neg (by omega), if_pos (by omega), Nat.add_sub_cancel_left]

/-- What carries a count is a low letter or a high letter. -/
theorem alutDecode_cases {x : Byte} {n : Nat} (h : alutDecode x = some n) :
    (1 ≤ n ∧ n ≤ 19 ∧ x = alutLow n) ∨ ∃ k, 1 ≤ k ∧ k ≤ 20 ∧ n = 20 * k ∧ x = alutHigh k := by
  unfold alutDecode at h
  split_ifs at h with hlow hhigh <;> obtain rfl := Option.some.inj h
  · refine .inl ⟨by omega, by omega, BitVec.eq_of_toNat_eq ?_⟩
    rw [alutLow_toNat (by omega)]
    omega
  · refine .inr ⟨x.toNat - 0x66, by omega, by omega, rfl, BitVec.eq_of_toNat_eq ?_⟩
    rw [alutHigh_toNat (by omega)]
    omega

theorem alutDecode_inj {x y : Byte} {n : Nat} (hx : alutDecode x = some n) (hy : alutDecode y = some n) :
    x = y := by
  rcases alutDecode_cases hx with ⟨-, hn, rfl⟩ | ⟨j, hj, -, hnj, rfl⟩ <;>
    rcases alutDecode_cases hy with ⟨-, hn', rfl⟩ | ⟨k, hk, -, hnk, rfl⟩
  · rfl
  · omega
  · omega
  · rw [show j = k by omega]

/-- The counts that have a character. -/
theorem exists_alutDecode_iff (n : Nat) : (∃ x, alutDecode x = some n) ↔
    (1 ≤ n ∧ n ≤ 19) ∨ (20 ≤ n ∧ n ≤ 400 ∧ n % 20 = 0) := by
  constructor
  · rintro ⟨x, hx⟩
    rcases alutDecode_cases hx with ⟨h1, hn, -⟩ | ⟨k, h1, hk, hn, -⟩
    · exact .inl ⟨h1, hn⟩
    · exact .inr (by omega)
  · rintro (⟨h1, hn⟩ | ⟨h20, hn, hmod⟩)
    · exact ⟨_, alutDecode_alutLow h1 hn⟩
    · refine ⟨_, (alutDecode_alutHigh (k := n / 20) (by omega) (by omega)).trans (congrArg some ?_)⟩
      omega

/-- Settles O39: a count names its letter, and a letter its count. -/
theorem alutDecodeIsInjective : Obligations.AlutDecodeIsInjective := by
  refine ⟨fun x y hx hxy => ?_, exists_alutDecode_iff⟩
  obtain ⟨n, hn⟩ := Option.isSome_iff_exists.1 hx
  exact alutDecode_inj hn (hxy.symm.trans hn)

/-! The token of a count (R154). -/

/-- The four outcomes of `AlutEncode`: overflow, a low letter, a high letter, or a high and a low letter. -/
theorem alutEncode_cases (c : BitVec 16) :
    ((c.toNat = 0 ∨ 400 < c.toNat) ∧ alutEncode c = ⟨0, 0, 0, true⟩) ∨
    (1 ≤ c.toNat ∧ c.toNat ≤ 19 ∧ alutEncode c = ⟨1, alutLow c.toNat, 0, false⟩) ∨
    (∃ k, 1 ≤ k ∧ k ≤ 20 ∧ c.toNat = 20 * k ∧ alutEncode c = ⟨1, alutHigh k, 0, false⟩) ∨
    (∃ k r, 1 ≤ k ∧ k ≤ 19 ∧ 1 ≤ r ∧ r ≤ 19 ∧ c.toNat = 20 * k + r ∧
      alutEncode c = ⟨2, alutHigh k, alutLow r, false⟩) := by
  by_cases hout : c.toNat < 1 ∨ 400 < c.toNat
  · exact .inl ⟨by omega, if_pos hout⟩
  by_cases hlow : c.toNat ≤ 19
  · exact .inr (.inl ⟨by omega, hlow, (if_neg hout).trans (if_pos hlow)⟩)
  by_cases hhigh : c.toNat % 20 = 0
  · exact .inr (.inr (.inl ⟨c.toNat / 20, by omega, by omega, by omega,
      (if_neg hout).trans ((if_neg hlow).trans (if_pos hhigh))⟩))
  · exact .inr (.inr (.inr ⟨c.toNat / 20, c.toNat % 20, by omega, by omega, by omega, by omega, by omega,
      (if_neg hout).trans ((if_neg hlow).trans (if_neg hhigh))⟩))

/-- On 1..400 the token is a low letter, a high letter, or a high letter before a low one. -/
theorem tokenChars_alutEncode_cases {c : BitVec 16} (h1 : 1 ≤ c.toNat) (h400 : c.toNat ≤ 400) :
    (c.toNat ≤ 19 ∧ tokenChars (alutEncode c) = [alutLow c.toNat]) ∨
    (∃ k, 1 ≤ k ∧ k ≤ 20 ∧ c.toNat = 20 * k ∧ tokenChars (alutEncode c) = [alutHigh k]) ∨
    (∃ k r, 1 ≤ k ∧ k ≤ 19 ∧ 1 ≤ r ∧ r ≤ 19 ∧ c.toNat = 20 * k + r ∧
      tokenChars (alutEncode c) = [alutHigh k, alutLow r]) := by
  rcases alutEncode_cases c with ⟨hout, -⟩ | ⟨-, hlow, he⟩ | ⟨k, hk1, hk, hc, he⟩ |
    ⟨k, r, hk1, hk, hr1, hr, hc, he⟩
  · omega
  · exact .inl ⟨hlow, by rw [he]; rfl⟩
  · exact .inr (.inl ⟨k, hk1, hk, hc, by rw [he]; rfl⟩)
  · exact .inr (.inr ⟨k, r, hk1, hk, hr1, hr, hc, by rw [he]; rfl⟩)

/-! The token read back, character by character (R155). -/

theorem multCount_alutLow {r : Nat} (h1 : 1 ≤ r) (hr : r ≤ 19) : multCount (alutLow r) = r := by
  rw [multCount, alutDecode_alutLow h1 hr, Option.getD_some]

theorem multCount_alutHigh {k : Nat} (h1 : 1 ≤ k) (hk : k ≤ 20) : multCount (alutHigh k) = 20 * k := by
  rw [multCount, alutDecode_alutHigh h1 hk, Option.getD_some]

section
variable {c : BitVec 16} (h1 : 1 ≤ c.toNat) (h400 : c.toNat ≤ 400)
include h1 h400

theorem sum_multCount_tokenChars : ((tokenChars (alutEncode c)).map multCount).sum = c.toNat := by
  rcases tokenChars_alutEncode_cases h1 h400 with ⟨hlow, ht⟩ | ⟨k, hk1, hk, hc, ht⟩ |
    ⟨k, r, hk1, hk, hr1, hr, hc, ht⟩ <;> rw [ht]
  · simp [multCount_alutLow h1 hlow]
  · simp [multCount_alutHigh hk1 hk, hc]
  · simp [multCount_alutHigh hk1 (by omega), multCount_alutLow hr1 hr, hc]

theorem isSome_alutDecode_tokenChars : ∀ x ∈ tokenChars (alutEncode c), (alutDecode x).isSome = true := by
  rcases tokenChars_alutEncode_cases h1 h400 with ⟨hlow, ht⟩ | ⟨k, hk1, hk, -, ht⟩ |
    ⟨k, r, hk1, hk, hr1, hr, -, ht⟩ <;> rw [ht]
  · simp [alutDecode_alutLow h1 hlow]
  · simp [alutDecode_alutHigh hk1 hk]
  · simp [alutDecode_alutHigh hk1 (by omega), alutDecode_alutLow hr1 hr]

theorem length_tokenChars_alutEncode : (tokenChars (alutEncode c)).length =
    if c.toNat ≤ 20 ∨ c.toNat % 20 = 0 then 1 else 2 := by
  rcases tokenChars_alutEncode_cases h1 h400 with ⟨hlow, ht⟩ | ⟨k, -, -, hc, ht⟩ |
    ⟨k, r, hk1, hk, hr1, hr, hc, ht⟩ <;> rw [ht]
  · rw [if_pos (by omega)]; rfl
  · rw [if_pos (by omega)]; rfl
  · rw [if_neg (by omega)]; rfl

end

/-- Two counts with one token are the sum of the same counts. -/
theorem alutEncode_inj {c e : BitVec 16} (hc1 : 1 ≤ c.toNat) (hc : c.toNat ≤ 400) (he1 : 1 ≤ e.toNat)
    (he : e.toNat ≤ 400) (h : alutEncode c = alutEncode e) : c = e := by
  apply BitVec.eq_of_toNat_eq
  rw [← sum_multCount_tokenChars hc1 hc, h, sum_multCount_tokenChars he1 he]

/-- Settles O38, by the shape of the token; equal tokens have equal sums. -/
theorem alutTokensAddUp : Obligations.AlutTokensAddUp := by
  refine ⟨fun c h1 h400 => ⟨sum_multCount_tokenChars h1 h400, isSome_alutDecode_tokenChars h1 h400, ?_⟩,
    fun _ _ hc1 hc he1 he h => alutEncode_inj hc1 hc he1 he h⟩
  rw [length_tokenChars_alutEncode h1 h400]
  split <;> simp [*]

/-! The two lookups as the host reads them (R48, R50, R303). -/

/-- A field above a word that is short enough adds its value at its place. -/
theorem toNat_field_or {n k : Nat} (x : BitVec n) {y : Word32} (hfit : n + k ≤ 32) (hy : y.toNat < 2 ^ k) :
    ((x.setWidth 32 : Word32) <<< k ||| y).toNat = x.toNat * 2 ^ k + y.toNat := by
  have hx : x.toNat * 2 ^ k < 2 ^ 32 := calc
    x.toNat * 2 ^ k < 2 ^ n * 2 ^ k := Nat.mul_lt_mul_of_pos_right x.isLt (Nat.two_pow_pos k)
    _ = 2 ^ (n + k) := (Nat.pow_add 2 n k).symm
    _ ≤ 2 ^ 32 := Nat.pow_le_pow_right (by decide) hfit
  rw [BitVec.toNat_or, BitVec.toNat_shiftLeft, BitVec.toNat_setWidth_of_le (by omega), Nat.shiftLeft_eq,
    Nat.mod_eq_of_lt hx, ← Nat.shiftLeft_eq, Nat.shiftLeft_add_eq_or_of_lt hy]

/-- The fields of LUT_TOKEN lie side by side. -/
theorem tokenWord_toNat (t : Token) : (tokenWord t).toNat =
    t.ovf.toNat * 2 ^ 31 + t.len.toNat * 2 ^ 16 + t.tok1.toNat * 2 ^ 8 + t.tok0.toNat := by
  have hlen := t.len.isLt
  have htok1 := t.tok1.isLt
  have htok0 := t.tok0.isLt
  have hword0 : (t.tok0.setWidth 32 : Word32).toNat = t.tok0.toNat := BitVec.toNat_setWidth_of_le (by decide)
  have hword1 := toNat_field_or t.tok1 (k := 8) (by decide) (hword0.trans_lt htok0)
  have hword2 := toNat_field_or t.len (k := 16) (by decide) (hword1.trans_lt (by omega))
  have hword3 := toNat_field_or (BitVec.ofBool t.ovf) (k := 31) (by decide) (hword2.trans_lt (by omega))
  rw [hword2, hword1, hword0, BitVec.toNat_ofBool] at hword3
  rw [tokenWord, BitVec.or_assoc, BitVec.or_assoc]
  simpa only [Nat.add_assoc] using hword3

/-- LUT_TOKEN of a count (R154). -/
theorem tokenWord_alutEncode_toNat (c : BitVec 16) : (tokenWord (alutEncode c)).toNat =
    if c.toNat = 0 ∨ 400 < c.toNat then 2 ^ 31
    else if c.toNat ≤ 19 then 2 ^ 16 + (0x46 + c.toNat)
    else if c.toNat % 20 = 0 then 2 ^ 16 + (0x66 + c.toNat / 20)
    else 2 * 2 ^ 16 + (0x46 + c.toNat % 20) * 2 ^ 8 + (0x66 + c.toNat / 20) := by
  rcases alutEncode_cases c with ⟨hout, he⟩ | ⟨h1, hlow, he⟩ | ⟨k, hk1, hk, hc, he⟩ |
    ⟨k, r, hk1, hk, hr1, hr, hc, he⟩ <;> rw [he, tokenWord_toNat]
  · rw [if_pos hout]
    rfl
  · rw [if_neg (by omega), if_pos hlow, alutLow_toNat hlow]
    simp
  · rw [if_neg (by omega), if_neg (by omega), if_pos (by omega), alutHigh_toNat hk, hc,
      Nat.mul_div_cancel_left k (by decide)]
    simp
  · have hdiv : c.toNat / 20 = k := by omega
    have hmod : c.toNat % 20 = r := by omega
    rw [if_neg (by omega), if_neg (by omega), if_neg (by omega), alutHigh_toNat (by omega),
      alutLow_toNat hr, hdiv, hmod]
    simp

theorem valueWord_some_toNat {n : Nat} (hn : n < 2 ^ 31) : (valueWord (some n)).toNat = 2 ^ 31 + n := by
  have hcount : (BitVec.ofNat 32 n).toNat = n := Nat.mod_eq_of_lt (by omega)
  have hword := toNat_field_or 1#1 (k := 31) (by decide) (hcount.trans_lt hn)
  rw [hcount] at hword
  exact hword

/-- LUT_VALUE of a character (R156). -/
theorem valueWord_alutDecode_toNat (x : Byte) : (valueWord (alutDecode x)).toNat =
    if 0x47 ≤ x.toNat ∧ x.toNat ≤ 0x59 then 2 ^ 31 + (x.toNat - 0x46)
    else if 0x67 ≤ x.toNat ∧ x.toNat ≤ 0x7A then 2 ^ 31 + 20 * (x.toNat - 0x66)
    else 0 := by
  unfold alutDecode
  split_ifs with hlow hhigh
  · exact valueWord_some_toNat (by omega)
  · exact valueWord_some_toNat (by omega)
  · rfl

/-- Settles O36: the write stores the count (O34), the read answers the view of it. -/
theorem lutEncodeAnswersTheToken : Obligations.LutEncodeAnswersTheToken := by
  intro d x s
  obtain ⟨-, -, -, hwrite, -⟩ := registerWritesStoreTheirFields d s
  refine ⟨_, _, _, hwrite, exec_csrRead rfl x _, rfl, rfl, rfl, ?_⟩
  have hcount : (d.extractLsb' 0 16).toNat = d.toNat % 65536 := by simp
  rw [← hcount]
  exact tokenWord_alutEncode_toNat _

/-- Settles O37: the write stores the character (O34), the read answers the view of it. -/
theorem lutDecodeAnswersTheCount : Obligations.LutDecodeAnswersTheCount := by
  intro d x s
  obtain ⟨-, -, -, -, hwrite, -⟩ := registerWritesStoreTheirFields d s
  refine ⟨_, _, _, hwrite, exec_csrRead rfl x _, rfl, rfl, rfl, ?_⟩
  have hchar : (d.extractLsb' 0 8).toNat = d.toNat % 256 := by simp
  rw [← hchar]
  exact valueWord_alutDecode_toNat _

end Sys2Proof.Machine
end

section
/-! The HEX unit: start and stop, a byte and a row of bytes, and what every step keeps of it; and the beats of the two
units side by side (R180..R188, R302, R345, R360, R380). -/

namespace Sys2Proof.Machine

/-! Start and stop (R182, R183, R302). -/

/-- The five names of a CTRL write (log 6). -/
def ctrlNames (d : Word32) : List Instr := [.hexStart d, .hexStop d, .rldStart d, .rldAbort d, .ctrlWrite d]

/-- Every name of a CTRL write means the whole of it, whatever its data (R302). -/
theorem exec_ctrlNames (d : Word32) (s : State) : ∀ i ∈ ctrlNames d, exec i s = .next (ctrlWrite d s) := by
  simp only [ctrlNames, List.forall_mem_cons]
  exact ⟨rfl, rfl, rfl, rfl, rfl, nofun⟩

theorem hexStartNames_subset (d : Word32) : [.hexStart d, .ctrlWrite d] ⊆ ctrlNames d := by simp [ctrlNames]

theorem hexStopNames_subset (d : Word32) :
    [.hexStop d, .rldStart d, .rldAbort d, .ctrlWrite d] ⊆ ctrlNames d := by simp [ctrlNames]

theorem ctrlWrite_hex_of_start {d : Word32} {s : State} (hoff : s.csr.hexEn = false) (hd : d.getLsbD 0 = true) :
    (ctrlWrite d s).hex = hexStart (ctrlWrite d s).csr s.hex := if_pos ⟨hoff, hd⟩

theorem ctrlWrite_hex_of_stop {d : Word32} {s : State} (hon : s.csr.hexEn = true) (hd : d.getLsbD 0 = false) :
    (ctrlWrite d s).hex = hexStop s.hex :=
  (if_neg fun hstart => absurd (hon.symm.trans hstart.1) (by decide)).trans (if_pos ⟨hon, hd⟩)

/-- A write that leaves HEX_EN as it is leaves the unit as it is (R302). -/
theorem ctrlWrite_hex_of_same {d : Word32} {s : State} (hd : d.getLsbD 0 = s.csr.hexEn) :
    (ctrlWrite d s).hex = s.hex := by
  rw [ctrlWrite_hex, hd]
  cases s.csr.hexEn <;> rfl

/-- A start, successful or not, as one update (R182). -/
theorem hexStart_eq (c : Csr) (u : HexUnit) : hexStart c u = { u with
    state := if c.rowbytes = 0 then .error else .run
    rb := c.rowbytes
    upper := c.hexUpper
    idx := 0
    rows := 0
    err := if c.rowbytes = 0 then .invalidDimension else .none
    detail := if c.rowbytes = 0 then .rZero else .none } := by
  rcases hexStart_cases c u with ⟨hR, he⟩ | ⟨hR, he⟩ <;> rw [he] <;> simp only [hR, if_true, if_false]

/-- Settles O27: no start where HEX_EN is 1; else a start, which fails on R = 0. -/
theorem hexStartLatchesAndChecks : Obligations.HexStartLatchesAndChecks := by
  intro d s hd i hi
  refine ⟨_, exec_ctrlNames d s i (hexStartNames_subset d hi), ?_⟩
  cases hen : s.csr.hexEn with
  | true => exact ctrlWrite_hex_of_same (hd.trans hen.symm)
  | false =>
    rw [ctrlWrite_hex_of_start hen hd, hexStart_eq]
    rfl

/-- Settles O28: each of the four names means the whole CTRL write, and this one is a stop. -/
theorem hexStopGoesToIdle : Obligations.HexStopGoesToIdle := fun d s hon hd i hi =>
  ⟨_, exec_ctrlNames d s i (hexStopNames_subset d hi), ctrlWrite_hex_of_stop hon hd⟩

/-! A byte (R181, R184). -/

/-- The character of a nibble stands at the nibble's place among the sixteen (R181). -/
theorem hexChar_eq_hexDigits (n : Nibble) (upper : Bool) : hexChar n upper = (hexDigits upper).getD n.toNat 0 := by
  decide +revert

theorem hiNibble_toNat (b : Byte) : (hiNibble b).toNat = b.toNat / 16 := by
  have h := b.isLt
  rw [hiNibble, BitVec.extractLsb'_toNat, Nat.shiftRight_eq_div_pow]
  omega

theorem loNibble_toNat (b : Byte) : (loNibble b).toNat = b.toNat % 16 := by
  simp [loNibble]

/-- The two output beats of a byte, ROW_END on the second where the byte ends its row (R184). -/
def byteBeats (upper : Bool) (b : Byte) (atEnd : Bool) : List OutBeat :=
  [⟨hexChar (hiNibble b) upper, false⟩, ⟨hexChar (loNibble b) upper, atEnd⟩]

theorem byteBeats_eq_hexDigits (upper : Bool) (b : Byte) (atEnd : Bool) : byteBeats upper b atEnd =
    [⟨(hexDigits upper).getD (b.toNat / 16) 0, false⟩, ⟨(hexDigits upper).getD (b.toNat % 16) 0, atEnd⟩] := by
  rw [byteBeats, hexChar_eq_hexDigits, hexChar_eq_hexDigits, hiNibble_toNat, loNibble_toNat]

/-- The unit's place after one more byte of its row, the row's last one or not (R184). -/
def HexUnit.advance (u : HexUnit) (last : Bool) : HexUnit :=
  { u with idx := if last then 0 else u.idx + 1, rows := if last then u.rows + 1 else u.rows }

/-- A byte with LAST as its place in the row asks, at a unit with nothing queued. -/
theorem hexByte_of_last {last : Bool} {u : HexUnit} (hlast : last = decide (u.idx.toNat + 1 = u.rb.toNat))
    (hq : u.outq = []) (b : Byte) : hexByte last b u = { u.advance last with outq := byteBeats u.upper b last } := by
  rcases hexByte_cases last b u with ⟨hne, -⟩ | ⟨rfl, -, he⟩ | ⟨rfl, -, he⟩
  · exact absurd hlast hne
  · rw [he, hq]
    rfl
  · rw [he, hq]
    rfl

theorem hexByte_of_wrong_last {last : Bool} {u : HexUnit} (hlast : last ≠ decide (u.idx.toNat + 1 = u.rb.toNat))
    (b : Byte) : hexByte last b u = u.raise .hexLastMismatch := if_pos hlast

theorem exec_hexByte_ready {s : State} (hrun : s.hex.state = .run) (hq : s.hex.outq = []) (last : Bool) (b : Byte) :
    exec (.hexByte last b) s = .next (s.withHex (hexByte last b s.hex)) :=
  hexBeat_ready _ s ((hexInReady_iff s).2 ⟨hrun, hq⟩)

/-- Settles O29: LAST as the row position asks, and LAST wrong. -/
theorem hexByteEmitsTwoCharacters : Obligations.HexByteEmitsTwoCharacters := by
  intro last b s hrun hq
  refine ⟨fun hlast => ?_, fun hlast => ?_⟩
  · rw [exec_hexByte_ready hrun hq, hexByte_of_last hlast hq, byteBeats_eq_hexDigits, ← hlast]
    rfl
  · rw [exec_hexByte_ready hrun hq, hexByte_of_wrong_last hlast]
    rfl

/-! A row of bytes (R185). -/

theorem hexRow_length (upper : Bool) (row : List Byte) : (hexRow upper row).length = 2 * row.length := by
  simp [hexRow, List.length_flatMap, Nat.mul_comm]

/-- A byte before the last of its row puts its two characters, without ROW_END, before the others. -/
theorem rowBeats_hexRow_cons (upper : Bool) (b : Byte) {row : List Byte} (hrow : row ≠ []) :
    rowBeats (hexRow upper (b :: row)) = byteBeats upper b false ++ rowBeats (hexRow upper row) := by
  cases row with
  | nil => exact absurd rfl hrow
  | cons c cs => rfl

theorem hexRowBeats_cons (b : Byte) {row : List Byte} (hrow : row ≠ []) :
    hexRowBeats (b :: row) = (BitVec.ofBool false ++ b) :: hexRowBeats row := by
  cases row with
  | nil => exact absurd rfl hrow
  | cons c cs => rfl

/-- One beat of a row through `step`: its byte's effect on the unit, and the beat is presented no more. -/
theorem sendHex_ready {s : State} (hrun : s.hex.state = .run) (hq : s.hex.outq = []) (last : Bool) (b : Byte) :
    sendHex (BitVec.ofBool last ++ b) s = .next (s.withHex (hexByte last b s.hex)) := by
  have ready : hexInReady s = true := (hexInReady_iff s).2 ⟨hrun, hq⟩
  refine (step_hexIn_ready (s := { s with hexIn := _ :: s.hexIn, schedule := .hexIn :: s.schedule }) rfl rfl
    ready).trans ?_
  rw [decode_hexBeat]
  exact exec_hexByte_ready hrun hq last b

/-- Feeding one beat more first: its output is taken, and the rest is fed to the state that it leaves. -/
theorem feedHex_cons {w : BitVec 9} {s t : State} (h : sendHex w s = .next t) (ws : List (BitVec 9)) :
    feedHex (w :: ws) s = ((feedHex ws (drainHex t)).1, t.hex.outq ++ (feedHex ws (drainHex t)).2) := by
  simp only [feedHex, h]

/-- A byte fed with LAST as its place in the row asks: its two characters come out, the unit moves on, and the
queue is empty again. -/
theorem feedHex_byte {s : State} {last : Bool} (hrun : s.hex.state = .run) (hq : s.hex.outq = [])
    (hlast : last = decide (s.hex.idx.toNat + 1 = s.hex.rb.toNat)) (b : Byte) (ws : List (BitVec 9)) :
    feedHex ((BitVec.ofBool last ++ b) :: ws) s =
      ((feedHex ws (s.withHex (s.hex.advance last))).1,
        byteBeats s.hex.upper b last ++ (feedHex ws (s.withHex (s.hex.advance last))).2) := by
  have hdrained : drainHex (s.withHex (hexByte last b s.hex)) = s.withHex (s.hex.advance last) := by
    rw [hexByte_of_last hlast hq, HexUnit.advance, drainHex, ← hq]
    rfl
  rw [feedHex_cons (sendHex_ready hrun hq last b), hdrained, State.withHex_hex, hexByte_of_last hlast hq]

/-- What is left of a row, from the unit's place in the row on, comes out whole (R185). -/
theorem feedHex_rest_of_row (row : List Byte) : ∀ s : State, s.hex.state = .run → s.hex.outq = [] → row ≠ [] →
    s.hex.idx.toNat + row.length = s.hex.rb.toNat →
    feedHex (hexRowBeats row) s =
      (s.withHex { s.hex with idx := 0, rows := s.hex.rows + 1 }, rowBeats (hexRow s.hex.upper row)) := by
  induction row using hexRowBeats.induct with
  | case1 => exact fun _ _ _ hrow => absurd rfl hrow
  | case2 b =>
    intro s hrun hq _ hlen
    have hlast : true = decide (s.hex.idx.toNat + 1 = s.hex.rb.toNat) := (decide_eq_true hlen).symm
    exact feedHex_byte hrun hq hlast b []
  | case3 b rest hrest ih =>
    intro s hrun hq _ hlen
    have hpos : 0 < rest.length := List.length_pos_iff.2 hrest
    rw [List.length_cons] at hlen
    have hlast : false = decide (s.hex.idx.toNat + 1 = s.hex.rb.toNat) := (decide_eq_false (by omega)).symm
    have hidx : (s.hex.idx + 1).toNat = s.hex.idx.toNat + 1 :=
      BitVec.toNat_add_of_lt (by have := s.hex.rb.isLt; simp; omega)
    rw [hexRowBeats_cons b hrest, feedHex_byte hrun hq hlast b, rowBeats_hexRow_cons _ _ hrest]
    have hlen' : (s.hex.idx + 1).toNat + rest.length = s.hex.rb.toNat := by omega
    rw [ih (s.withHex (s.hex.advance false)) hrun hq hrest hlen']
    rfl

/-- Settles O30: the rest of the row from its first byte on. -/
theorem hexRowComesOutWhole : Obligations.HexRowComesOutWhole := by
  intro row s hrun hq hidx hpos hlen
  have hrow : row ≠ [] := List.length_pos_iff.1 hpos
  refine ⟨?_, by rw [rowBeats_length, hexRow_length]⟩
  rw [feedHex_rest_of_row row s hrun hq hrow (by rw [hidx, hlen]; simp), ← hidx]

/-! What a turn does to the HEX unit (R180, R182..R184, R370). -/

/-- A host write at the unit: nothing, or the start or the stop of a CTRL write that changes HEX_EN (R302). -/
theorem hostWrite_hex_cases (a : BitVec 8) (d : Word32) (s : State) :
    (hostWrite a d s).hex = s.hex ∨
    (a = 0x00#8 ∧ s.csr.hexEn = false ∧ d.getLsbD 0 = true ∧
      (hostWrite a d s).hex = hexStart (ctrlWrite d s).csr s.hex) ∨
    (a = 0x00#8 ∧ s.csr.hexEn = true ∧ d.getLsbD 0 = false ∧ (hostWrite a d s).hex = hexStop s.hex) := by
  rcases hostWrite_cases a d s with ⟨ha, hw⟩ | ⟨-, -, hw⟩ | ⟨-, -, hw⟩ <;> rw [hw]
  · cases hen : s.csr.hexEn <;> cases hd : d.getLsbD 0
    · exact .inl (ctrlWrite_hex_of_same (hd.trans hen.symm))
    · exact .inr (.inl ⟨ha, rfl, rfl, ctrlWrite_hex_of_start hen hd⟩)
    · exact .inr (.inr ⟨ha, rfl, rfl, ctrlWrite_hex_of_stop hen hd⟩)
    · exact .inl (ctrlWrite_hex_of_same (hd.trans hen.symm))
  · exact .inl rfl
  · exact .inl rfl

/-- The turn of a host write to CTRL with DATA[0] = `en`. -/
def CtrlTurn (s : State) (en : Bool) (ts : List Turn) : Prop :=
  ∃ w ws, s.schedule = .host :: ts ∧ s.hostIn = w :: ws ∧ w.getLsbD 40 = true ∧
    w.extractLsb' 32 8 = 0x00#8 ∧ w.getLsbD 0 = en

/-- What a turn from `s` can leave of the HEX unit; its consumer's turn, and every turn that is not its own, is
`queue`. -/
inductive HexAfter (s : State) : HexUnit → Prop
  | queue (q : List OutBeat) : HexAfter s { s.hex with outq := q }
  | byte (last : Bool) (b : Byte) (hrun : s.hex.state = .run) : HexAfter s (hexByte last b s.hex)
  | start {ts : List Turn} (c : Csr) (hturn : CtrlTurn s true ts) (hoff : s.csr.hexEn = false) :
      HexAfter s (hexStart c s.hex)
  | stop {ts : List Turn} (hturn : CtrlTurn s false ts) (hon : s.csr.hexEn = true) : HexAfter s (hexStop s.hex)
  | rst {ts : List Turn} (hs : s.schedule = .rst :: ts) : HexAfter s HexUnit.reset

theorem TurnTaken.hexAfter {s t : State} (h : TurnTaken s t) : HexAfter s t.hex := by
  cases h with
  | idle => exact .queue s.hex.outq
  | hostRead => exact .queue s.hex.outq
  | @hostWrite w ws ts hs hin hw =>
    rcases hostWrite_hex_cases (w.extractLsb' 32 8) (w.extractLsb' 0 32)
      { s with schedule := ts, hostIn := ws } with he | ⟨ha, hoff, hd, he⟩ | ⟨ha, hon, hd, he⟩ <;> rw [he]
    · exact .queue s.hex.outq
    · rw [hostData_getLsbD (by decide)] at hd
      exact .start _ ⟨w, ws, hs, hin, hw, ha, hd⟩ hoff
    · rw [hostData_getLsbD (by decide)] at hd
      exact .stop ⟨w, ws, hs, hin, hw, ha, hd⟩ hon
  | hexBeat _ _ hrun _ => exact .byte _ _ hrun
  | rldBeat => exact .queue s.hex.outq
  | hexOut => exact .queue s.hex.outq.tail
  | rldOut => exact .queue s.hex.outq
  | rst hs => exact .rst hs

theorem step_hexAfter {s t : State} (h : step s = .next t) : HexAfter s t.hex := (step_turnTaken h).hexAfter

/-- Settles O41: of the turns that change the unit's state, a byte needs RUN and a start needs HEX_EN = 0, which
the invariant rules out in ERROR. -/
theorem hexErrorIsLeftByStopOrReset : Obligations.HexErrorIsLeftByStopOrReset := by
  intro s t inv h herr hleft
  have hafter := step_hexAfter h
  generalize t.hex = u at hafter hleft ⊢
  cases hafter with
  | queue q => exact absurd herr hleft
  | byte _ _ hrun => exact absurd (hrun.symm.trans herr) (by decide)
  | start c _ hoff =>
    have hon : s.csr.hexEn = true := inv.enabled.2 (by simp [herr])
    exact absurd (hon.symm.trans hoff) (by decide)
  | @stop ts hturn _ => exact ⟨rfl, ts, .inr hturn⟩
  | @rst ts hs => exact ⟨rfl, ts, .inl hs⟩

/-- No byte changes the latched row length or case. -/
theorem hexByte_latched (last : Bool) (b : Byte) (u : HexUnit) :
    (hexByte last b u).rb = u.rb ∧ (hexByte last b u).upper = u.upper := by
  rcases hexByte_cases last b u with ⟨-, he⟩ | ⟨-, -, he⟩ | ⟨-, -, he⟩ <;> rw [he] <;> exact ⟨rfl, rfl⟩

/-- Settles O43: the turns that keep the latched fields leave a start and a reset. -/
theorem hexConfigurationIsLatched : Obligations.HexConfigurationIsLatched := by
  intro s t h changed
  have hafter := step_hexAfter h
  generalize t.hex = u at hafter changed
  have hkept : ¬ (u.rb = s.hex.rb ∧ u.upper = s.hex.upper) := not_and_or.2 changed
  cases hafter with
  | queue q => exact absurd ⟨rfl, rfl⟩ hkept
  | byte last b _ => exact absurd (hexByte_latched last b s.hex) hkept
  | @start ts c hturn hoff =>
    obtain ⟨w, ws, hs, hin, hw, ha, hd⟩ := hturn
    exact ⟨ts, .inr ⟨w, ws, hs, hin, hw, ha, hd, hoff⟩⟩
  | stop => exact absurd ⟨rfl, rfl⟩ hkept
  | @rst ts hs => exact ⟨ts, .inl hs⟩

/-! The beats of the two units side by side (R180, R360). -/

/-- What a beat leaves of the RLD is a function of the RLD alone: accepted or held, and its effect. -/
def rldBeatUnit (f : RldUnit → RldUnit) (u : RldUnit) : RldUnit :=
  if u.state = .run ∧ u.outq = [] then f u else u

/-- What a beat leaves of the HEX unit is a function of the HEX unit alone. -/
def hexBeatUnit (f : HexUnit → HexUnit) (u : HexUnit) : HexUnit :=
  if u.state = .run ∧ u.outq = [] then f u else u

theorem rldBeat_eq (f : RldUnit → RldUnit) (s : State) : rldBeat f s = .next (s.withRld (rldBeatUnit f s.rld)) := by
  simp only [rldBeat, rldBeatUnit, rldInReady_iff]
  split <;> rfl

theorem hexBeat_eq (f : HexUnit → HexUnit) (s : State) : hexBeat f s = .next (s.withHex (hexBeatUnit f s.hex)) := by
  simp only [hexBeat, hexBeatUnit, hexInReady_iff]
  split <;> rfl

/-- Settles O47: a beat's next state is the same state with the beat's own unit put in. -/
theorem unitsDoNotInterfere : Obligations.UnitsDoNotInterfere := by
  refine ⟨fun w s₁ s₂ t₁ t₂ hunit h₁ h₂ => ?_, fun w s₁ s₂ t₁ t₂ hunit h₁ h₂ => ?_⟩
  · rw [exec_decode_rldBeat, rldBeat_eq] at h₁ h₂
    cases h₁
    cases h₂
    exact ⟨congrArg (rldBeatUnit (beatOp w)) hunit, rfl⟩
  · rw [exec_decode_hexBeat, hexBeat_eq] at h₁ h₂
    cases h₁
    cases h₂
    exact ⟨congrArg (hexBeatUnit _) hunit, rfl⟩

end Sys2Proof.Machine
end

section
/-! The reference compressor as a function of its rows (R212, R214, R216, R217, R220). -/

namespace Sys2Proof.Machine

/-- One run, whatever its length. -/
theorem runsOf_replicate (c : Byte) (n : Nat) : runsOf (List.replicate (n + 1) c) = [(c, n + 1)] := by
  induction n with
  | zero => rfl
  | succ n ih => rw [List.replicate_succ, runsOf, ih]; exact if_pos rfl

theorem foldRow_replicate_white (n : Nat) : foldRow (List.replicate (n + 1) 0x30#8) = [0x2C#8] := by
  rw [foldRow, runsOf_replicate]
  rfl

theorem foldRow_replicate_black (n : Nat) : foldRow (List.replicate (n + 1) 0x66#8) = [0x21#8] := by
  rw [foldRow, runsOf_replicate]
  rfl

theorem refCompress_singleton (row : List Byte) : refCompress [row] = foldRow row := by
  simp [refCompress, compressAfter_cons]

/-- Rows up to and with one row, then the rest after that row's fold. -/
theorem refCompress_append (before after : List (List Byte)) (row : List Byte) :
    refCompress (before ++ row :: after) =
      refCompress (before ++ [row]) ++ compressAfter (some (foldRow row)) after :=
  compressAfter_append none before after row

theorem compressAfter_replicate (row : List Byte) (k : Nat) :
    compressAfter (some (foldRow row)) (List.replicate k row) = List.replicate k 0x3A#8 := by
  induction k with
  | zero => rfl
  | succ k ih => rw [List.replicate_succ, compressAfter_repeat, ih, List.replicate_succ]

/-- Settles O48: what follows a row is compressed after that row's fold alone, and a row with the same fold adds `:`
to it. -/
theorem refCompressFoldsAsStated : Obligations.RefCompressFoldsAsStated := by
  refine ⟨fun n => ⟨foldRow_replicate_white n, foldRow_replicate_black n⟩, refCompress_singleton,
    fun before row next => ?_, fun before after row => ⟨_, refCompress_append before after row, ?_⟩,
    fun before row k => ?_⟩
  · rw [refCompress_append, compressAfter_cons, compressAfter_nil, List.append_nil]
    simp only [Option.some_inj, eq_comm]
  · rw [refCompress_append, compressAfter_repeat]
  · rw [List.replicate_succ, refCompress_append, compressAfter_replicate]

end Sys2Proof.Machine
end

section
/-! A row as nibbles: how its bytes, its hex characters and the RLD's row buffers hold them (R53, R181, R185, R245). -/

namespace Sys2Proof.Machine

/-- The nibbles of a row, high nibble first (R185, R245). -/
def rowNibbles (row : List Byte) : List Nibble := row.flatMap (fun b => [hiNibble b, loNibble b])

theorem rowNibbles_cons (b : Byte) (row : List Byte) :
    rowNibbles (b :: row) = hiNibble b :: loNibble b :: rowNibbles row := rfl

theorem rowNibbles_length (row : List Byte) : (rowNibbles row).length = 2 * row.length := by
  simp [rowNibbles, List.length_flatMap, Nat.mul_comm]

theorem packByte_hiNibble_loNibble (b : Byte) : packByte (hiNibble b) (loNibble b) = b :=
  BitVec.extractLsb'_append_extractLsb'

theorem hexRow_eq_map (upper : Bool) (row : List Byte) :
    hexRow upper row = (rowNibbles row).map (fun n => hexChar n upper) := by
  simp [hexRow, rowNibbles, List.map_flatMap]

/-! Nibbles at the start of a row buffer. -/

/-- The elements of a buffer from 0 on are the nibbles of a list, as far as it goes. -/
def StartsWith (nib : Nat → Nibble) (ns : List Nibble) : Prop := ∀ i n, ns[i]? = some n → nib i = n

theorem startsWith_nil (nib : Nat → Nibble) : StartsWith nib [] := fun _ _ h => by simp at h

theorem StartsWith.congr {nib nib' : Nat → Nibble} {ns : List Nibble} (h : StartsWith nib ns)
    (heq : ∀ i, i < ns.length → nib' i = nib i) : StartsWith nib' ns := fun i n hi =>
  (heq i (List.getElem?_eq_some_iff.1 hi).1).trans (h i n hi)

/-- A buffer that starts with a row's nibbles packs to the row (R245). -/
theorem StartsWith.pack_eq {nib : Nat → Nibble} {row : List Byte} (h : StartsWith nib (rowNibbles row)) :
    (List.range row.length).map (fun j => packByte (nib (2 * j)) (nib (2 * j + 1))) = row := by
  induction row generalizing nib with
  | nil => rfl
  | cons b bs ih =>
    have hhi : nib 0 = hiNibble b := h 0 _ rfl
    have hlo : nib 1 = loNibble b := h 1 _ rfl
    have hrest := ih (nib := fun i => nib (i + 2)) fun i n hi => h (i + 2) n hi
    rw [List.length_cons, List.range_succ_eq_map, List.map_cons, List.map_map, hhi, hlo,
      packByte_hiNibble_loNibble]
    exact congrArg (b :: ·) hrest

theorem RldUnit.rowOutput_of_startsWith {u : RldUnit} {row : List Byte} (hpix : u.pix = false)
    (hlen : row.length = u.rb.toNat) (h : StartsWith u.curAt (rowNibbles row)) : u.rowOutput = rowBeats row := by
  have hbytes : u.rowBytes = row := by rw [RldUnit.rowBytes, ← hlen]; exact h.pack_eq
  rw [RldUnit.rowOutput, hpix, hbytes]
  rfl

/-- Nibbles placed at the end of those that a buffer starts with (R53). -/
theorem StartsWith.fillCur {u : RldUnit} {ns : List Nibble} (h : StartsWith u.curAt ns) (k : Nat) (n : Nibble) :
    StartsWith (u.fillCur ns.length k n).curAt (ns ++ List.replicate k n) := by
  intro i m hi
  rw [RldUnit.fillCur_curAt]
  rw [List.getElem?_append] at hi
  by_cases hin : i < ns.length
  · rw [if_pos hin] at hi
    rw [if_neg (by omega)]
    exact h i m hi
  · rw [if_neg hin, List.getElem?_replicate] at hi
    split at hi
    next hk => rw [if_pos (by omega)]; exact Option.some.inj hi
    next => cases hi

theorem rowBeats_injective {row row' : List Byte} (h : rowBeats row = rowBeats row') : row = row' := by
  have hdata : ∀ bs : List Byte, (rowBeats bs).map OutBeat.data = bs := fun bs =>
    List.ext_getElem? fun i => by simp [rowBeats_getElem?, Function.comp_def]
  rw [← hdata row, h, hdata row']

/-! The characters of a row (R113). -/

/-- The nibble of a data character; 0 for any other character, of which no claim is made. -/
def hexNibble (c : Byte) : Nibble :=
  match classOf c with
  | .data n => n
  | _ => 0

/-- A data character, as R113 classes it. -/
def IsHexDigit (c : Byte) : Prop := classOf c = .data (hexNibble c)

theorem classOf_hexChar (n : Nibble) (upper : Bool) : classOf (hexChar n upper) = .data n := by
  decide +revert

theorem hexNibble_hexChar (n : Nibble) (upper : Bool) : hexNibble (hexChar n upper) = n := by
  rw [hexNibble, classOf_hexChar]

theorem isHexDigit_of_mem_hexRow {upper : Bool} {row : List Byte} {c : Byte} (hc : c ∈ hexRow upper row) :
    IsHexDigit c := by
  rw [hexRow_eq_map] at hc
  obtain ⟨n, -, rfl⟩ := List.mem_map.1 hc
  rw [IsHexDigit, classOf_hexChar, hexNibble_hexChar]

theorem map_hexNibble_hexRow (upper : Bool) (row : List Byte) : (hexRow upper row).map hexNibble = rowNibbles row := by
  rw [hexRow_eq_map, List.map_map]
  exact (List.map_congr_left fun n _ => hexNibble_hexChar n upper).trans (List.map_id _)

theorem hexRow_ne_nil {row : List Byte} (hrow : row ≠ []) (upper : Bool) : hexRow upper row ≠ [] := by
  have hpos := List.length_pos_iff.2 hrow
  rw [← List.length_pos_iff, hexRow_length]
  omega

/-- A multiplier character has the class of its count (R156, R272, R273). -/
theorem classOf_of_alutDecode {x : Byte} (hx : (alutDecode x).isSome) : classOf x = .mult (multCount x) := by
  decide +revert

end Sys2Proof.Machine
end

section
/-! Decoding a row, character by character: where an RLD in a run stands in its current row, and what each class of
characters does there (R245, R270..R285). -/

namespace Sys2Proof.Machine

/-- An RLD in a packed run of `h` rows of `r` bytes with no declared body length, with nothing queued: the rows
`done` are complete, the last of them is its previous row, `placed` are the nibbles of the current row so far, and
`pending` is its counter. -/
structure InRow (r h : Nat) (done : List (List Byte)) (placed : List Nibble) (pending : Nat) (u : RldUnit) :
    Prop where
  state : u.state = .run
  queue : u.outq = []
  err : u.err = .none
  pix : u.pix = false
  bodylen : u.bodylen = 0
  rb : u.rb.toNat = r
  height : u.height.toNat = h
  rows : u.rows.toNat = done.length
  has_prev : done ≠ [] → u.hasPrev = true
  prev_row : ∀ b, done.getLast? = some b → b.length = r ∧ StartsWith u.prevAt (rowNibbles b)
  cursor : u.cursor.toNat = placed.length
  counter : u.counter.toNat = pending
  cur_row : StartsWith u.curAt placed

/-- An RLD that goes on in its current row, with nothing put out. -/
def InsideRow (r h : Nat) (done : List (List Byte)) (placed : List Nibble) (pending : Nat) (u : RldUnit)
    (out : List OutBeat) : Prop := out = [] ∧ InRow r h done placed pending u

/-- An RLD that completed its current row, the row `b`, and put it out (R245). -/
def AtRowEnd (r h : Nat) (done : List (List Byte)) (b : List Byte) (u : RldUnit) (out : List OutBeat) : Prop :=
  out = rowBeats b ∧ InRow r h (done ++ [b]) [] 0 u

/-- The RLD once its consumer has taken all of its output. -/
def RldUnit.drained (u : RldUnit) : RldUnit := { u with outq := [] }

section
variable {r h : Nat} {done : List (List Byte)} {placed : List Nibble} {pending : Nat} {u : RldUnit}

theorem InRow.rowLen (hin : InRow r h done placed pending u) : u.rowLen = 2 * r := by
  rw [RldUnit.rowLen, hin.rb]

theorem InRow.drained (hin : InRow r h done placed pending u) :
    InsideRow r h done placed pending u.drained u.outq := by
  refine ⟨hin.queue, ?_⟩
  rw [RldUnit.drained, ← hin.queue]
  exact hin

theorem InRow.countChar (hin : InRow r h done placed pending u) : InRow r h done placed pending u.countChar :=
  { hin with }

/-- With rows left, a body character follows its class's own rule (R270). -/
theorem InRow.charBody_eq (hin : InRow r h done placed pending u) (hleft : done.length < h)
    (f : RldUnit → RldUnit) : charBody f u = f u.countChar := by
  refine if_neg fun heq => ?_
  have := congrArg BitVec.toNat heq
  rw [hin.rows, hin.height] at this
  omega

/-- SKIP, anywhere (R285). -/
theorem InRow.after_skip (hin : InRow r h done placed pending u) :
    InRow r h done placed pending (charSkip u) := hin.countChar

/-- A multiplier whose count the rest of the row can hold (R272, R273). -/
theorem InRow.after_mult (hin : InRow r h done placed pending u) (hleft : done.length < h) {v : Nat}
    (hfit : placed.length + (pending + v) ≤ 2 * r) :
    InRow r h done placed (pending + v) (charMult v u) := by
  rw [charMult, hin.charBody_eq hleft]
  have hc := hin.countChar
  have hlen := hc.rowLen
  have hcursor := hc.cursor
  have hcounter := hc.counter
  rcases addMult_cases v u.countChar with ⟨hover, -⟩ | ⟨-, he⟩
  · omega
  · rw [he]
    have hnew : (BitVec.ofNat 17 (u.countChar.counter.toNat + v)).toNat = pending + v := by
      rw [RldUnit.toNat_ofNat_of_le_rowLen (u := u.countChar) (by omega), hcounter]
    exact { hc with counter := hnew }

/-- Completing the row, once the buffer holds it: the row is put out and becomes the previous row (R245). Placing and
copying change the current row and the cursor alone before it, and leave nothing pending. -/
theorem InRow.completeRow (hin : InRow r h done placed pending u) (hleft : done.length < h) {v : RldUnit}
    (hfix : v = { u with cur := v.cur, cursor := v.cursor, counter := 0 }) {b : List Byte} (hb : b.length = r)
    (hrow : StartsWith v.curAt (rowNibbles b)) :
    AtRowEnd r h done b v.completeRow.drained v.completeRow.outq := by
  have hv : InRow r h done placed pending { v with cur := u.cur, cursor := u.cursor, counter := u.counter } := by
    rw [hfix]
    exact hin
  have hout : v.rowOutput = rowBeats b := RldUnit.rowOutput_of_startsWith hv.pix (hb.trans hv.rb.symm) hrow
  have hprev : StartsWith v.completeRow.prevAt (rowNibbles b) := hrow.congr fun i hi => by
    rw [rowNibbles_length, hb] at hi
    rw [RldUnit.completeRow_prevAt, if_pos (hi.trans_eq (show v.rowLen = 2 * r from hv.rowLen).symm)]
  have hrows : (v.rows + 1).toNat = (done ++ [b]).length := by
    have hmax := v.height.isLt
    have hheight : v.height.toNat = h := hv.height
    have hdone : v.rows.toNat = done.length := hv.rows
    rw [BitVec.toNat_add_of_lt (by simp; omega), hdone, List.length_append]
    rfl
  refine ⟨?_, ?_⟩
  · have hqueue : v.outq = [] := hv.queue
    rw [RldUnit.completeRow_outq, hqueue, hout, List.nil_append]
  · exact {
      state := hv.state
      queue := rfl
      err := hv.err
      pix := hv.pix
      bodylen := hv.bodylen
      rb := hv.rb
      height := hv.height
      rows := hrows
      has_prev := fun _ => rfl
      prev_row := fun b' hb' => by
        obtain rfl : b = b' := by simpa using hb'
        exact ⟨hb, hprev⟩
      cursor := rfl
      counter := by rw [hfix]; rfl
      cur_row := startsWith_nil _ }

/-- A data character inside the row, with the count that is pending (R277). -/
theorem InRow.after_data (hin : InRow r h done placed pending u) (hleft : done.length < h) (n : Nibble)
    (hfit : placed.length + max pending 1 < 2 * r) :
    InRow r h done (placed ++ List.replicate (max pending 1) n) 0 (charData n u) := by
  rw [charData, hin.charBody_eq hleft]
  have hc := hin.countChar
  have hrow := hc.cur_row.fillCur (max pending 1) n
  rcases placeData_cases n u.countChar with ⟨hover, -⟩ | ⟨hlt, he⟩ | ⟨heq, -⟩
  · rw [hc.rowLen, hc.cursor, hc.counter] at hover
    omega
  · rw [he, hc.cursor, hc.counter]
    have hcursor : (BitVec.ofNat 17 (placed.length + max pending 1)).toNat =
        (placed ++ List.replicate (max pending 1) n).length := by
      rw [RldUnit.toNat_ofNat_of_le_rowLen (u := u) (by rw [hin.rowLen]; omega), List.length_append,
        List.length_replicate]
    exact { hc with cursor := hcursor, counter := rfl, cur_row := hrow }
  · rw [hc.rowLen, hc.cursor, hc.counter] at heq
    omega

/-- A data character that ends the row (R277). -/
theorem InRow.rowEnd_of_data (hin : InRow r h done placed pending u) (hleft : done.length < h) {n : Nibble}
    {b : List Byte} (hb : b.length = r) (hrow : placed ++ List.replicate (max pending 1) n = rowNibbles b) :
    AtRowEnd r h done b (charData n u).drained (charData n u).outq := by
  rw [charData, hin.charBody_eq hleft]
  have hc := hin.countChar
  have hlen : placed.length + max pending 1 = 2 * r := by
    rw [← hb, ← rowNibbles_length, ← hrow, List.length_append, List.length_replicate]
  have hcur := hc.cur_row.fillCur (max pending 1) n
  rw [hrow] at hcur
  rcases placeData_cases n u.countChar with ⟨hover, -⟩ | ⟨hlt, -⟩ | ⟨-, he⟩
  · rw [hc.rowLen, hc.cursor, hc.counter] at hover
    omega
  · rw [hc.rowLen, hc.cursor, hc.counter] at hlt
    omega
  · rw [he, hc.cursor, hc.counter]
    exact hc.completeRow hleft rfl hb hcur

/-- A fill of the rest of the row, with nothing pending (R278..R280). -/
theorem InRow.rowEnd_of_fill (hin : InRow r h done placed 0 u) (hleft : done.length < h) {n : Nibble} {k : Nat}
    {b : List Byte} (hb : b.length = r) (hrow : placed ++ List.replicate k n = rowNibbles b) :
    AtRowEnd r h done b (charFill n u).drained (charFill n u).outq := by
  rw [charFill, hin.charBody_eq hleft]
  have hc := hin.countChar
  have hzero : u.countChar.counter = 0 := BitVec.eq_of_toNat_eq hc.counter
  have hlen : 2 * r - placed.length = k := by
    rw [← hb, ← rowNibbles_length, ← hrow, List.length_append, List.length_replicate, Nat.add_sub_cancel_left]
  have hcur := hc.cur_row.fillCur k n
  rw [hrow] at hcur
  rcases fillRow_cases n u.countChar with ⟨hpending, -⟩ | ⟨-, he⟩
  · exact absurd hzero hpending
  · rw [he, hc.cursor, hc.rowLen, hlen]
    exact hc.completeRow hleft (by rw [← hzero]; rfl) hb hcur

/-- A repeat at the start of a row that is not the first: the previous row once more (R282). -/
theorem InRow.rowEnd_of_repeat (hin : InRow r h done [] 0 u) (hleft : done.length < h) {b : List Byte}
    (hlast : done.getLast? = some b) : AtRowEnd r h done b (charRepeat u).drained (charRepeat u).outq := by
  rw [charRepeat, hin.charBody_eq hleft]
  have hc := hin.countChar
  obtain ⟨hb, hprev⟩ := hc.prev_row b hlast
  have hhas : u.countChar.hasPrev = true := hc.has_prev (by rintro rfl; cases hlast)
  have hcounter : u.countChar.counter = 0 := BitVec.eq_of_toNat_eq hc.counter
  have hcursor : u.countChar.cursor = 0 := BitVec.eq_of_toNat_eq hc.cursor
  have hcur : StartsWith u.countChar.copyPrev.curAt (rowNibbles b) := hprev.congr fun i hi => by
    rw [rowNibbles_length, hb] at hi
    rw [RldUnit.copyPrev_curAt, if_pos (hi.trans_eq hc.rowLen.symm)]
  rcases repeatPrev_cases u.countChar with ⟨hno, -⟩ | ⟨-, hne, -⟩ | ⟨-, -, hne, -⟩ | ⟨-, -, -, he⟩
  · exact absurd (hhas.symm.trans hno) (by decide)
  · exact absurd hcounter hne
  · exact absurd hcursor hne
  · rw [he]
    exact hc.completeRow hleft (by rw [← hcounter]; rfl) hb hcur

/-- The End beat after the last row ends the run (R246). -/
theorem InRow.endBody_eq (hin : InRow r h done [] 0 u) (hall : done.length = h) :
    endBody u = { u with state := .done } := by
  have hzero : u.counter = 0 := BitVec.eq_of_toNat_eq hin.counter
  rcases endBody_cases u with ⟨hne, -⟩ | ⟨-, hshort, -⟩ | ⟨-, -, hne, -⟩ | ⟨-, -, -, he⟩
  · exact absurd hzero hne
  · rw [hin.rows, hin.height] at hshort
    omega
  · exact absurd hin.bodylen hne
  · exact he

/-- A start with a valid geometry in packed form stands at the start of the first row (R241). -/
theorem inRow_rldStart {c : Csr} (hR : 1 ≤ c.rowbytes.toNat) (hmax : c.rowbytes.toNat ≤ Config.rbMax)
    (hh : 1 ≤ h) (ht : c.total.toNat = c.rowbytes.toNat * h) (hlen : c.bodylen = 0) (hpix : c.rldPixel = false)
    (hq : u.outq = []) : InRow c.rowbytes.toNat h [] [] 0 (rldStart c u) := by
  have hpos : 0 < c.total.toNat := ht ▸ Nat.mul_pos hR hh
  have hdvd : c.total.toNat % c.rowbytes.toNat = 0 := ht ▸ Nat.mul_mod_right _ _
  have hdiv : c.total.toNat / c.rowbytes.toNat = h := ht ▸ Nat.mul_div_cancel_left h hR
  have hheight : (BitVec.ofNat 32 h).toNat = h := by
    rw [BitVec.toNat_ofNat, Nat.mod_eq_of_lt]
    exact (hdiv ▸ Nat.div_le_self _ _).trans_lt c.total.isLt
  rcases rldStart_cases c u with ⟨hzero, -⟩ | ⟨-, habove, -⟩ | ⟨-, -, hzero, -⟩ | ⟨-, -, -, hne, -⟩ |
    ⟨-, -, -, -, he⟩
  · omega
  · omega
  · omega
  · exact absurd hdvd hne
  · rw [he, hdiv]
    exact {
      state := rfl
      queue := hq
      err := rfl
      pix := hpix
      bodylen := hlen
      rb := rfl
      height := hheight
      rows := rfl
      has_prev := fun hne => absurd rfl hne
      prev_row := fun _ hlast => by cases hlast
      cursor := rfl
      counter := rfl
      cur_row := startsWith_nil _ }

end

end Sys2Proof.Machine
end

section
/-! Beats fed to the RLD through `step`, and what a list of characters leads it to (R91, R93, R120). -/

namespace Sys2Proof.Machine

/-! Beats through `step` (R91, R93). -/

/-- A beat at an RLD that accepts it: the beat's effect on the unit, and the beat is presented no more. -/
theorem sendRld_ready {s : State} (hrun : s.rld.state = .run) (hq : s.rld.outq = []) (w : BitVec 9) :
    sendRld w s = .next (s.withRld (beatOp w s.rld)) := by
  have ready : rldInReady s = true := (rldInReady_iff s).2 ⟨hrun, hq⟩
  refine (step_rldIn_ready (s := { s with rldIn := _ :: s.rldIn, schedule := .rldIn :: s.schedule }) rfl rfl
    ready).trans ?_
  rw [exec_decode_rldBeat]
  exact rldBeat_ready _ s ready

/-- An accepted beat fed first: its output is taken, and the rest is fed to the state that it leaves. -/
theorem feedRld_cons_ready {s : State} (hrun : s.rld.state = .run) (hq : s.rld.outq = []) (w : BitVec 9)
    (ws : List (BitVec 9)) : feedRld (w :: ws) s =
      ((feedRld ws (s.withRld (beatOp w s.rld).drained)).1,
        (beatOp w s.rld).outq ++ (feedRld ws (s.withRld (beatOp w s.rld).drained)).2) := by
  simp only [feedRld, sendRld_ready hrun hq]
  rfl

theorem beatOp_char (c : Byte) : beatOp (0#1 ++ c) = (classOf c).op := by
  have hend : (0#1 ++ c).getLsbD 8 = false := getLsbD_ofBool_append false c
  rw [beatOp, hend, BitVec.extractLsb'_append_eq_right]
  rfl

/-! Characters fed one by one. -/

/-- Fed the characters `cs`, state `s` becomes `t` and puts out `out`, whatever beats follow. -/
def Feeds (cs : List Byte) (s t : State) (out : List OutBeat) : Prop :=
  ∀ ws, feedRld (cs.map (fun c => 0#1 ++ c) ++ ws) s = ((feedRld ws t).1, out ++ (feedRld ws t).2)

/-- Fed the characters `cs`, state `s` comes to an RLD and an output of which `P` holds. -/
def Reaches (cs : List Byte) (s : State) (P : RldUnit → List OutBeat → Prop) : Prop :=
  ∃ t out, Feeds cs s t out ∧ P t.rld out

theorem Feeds.append {cs ds : List Byte} {s t u : State} {out out' : List OutBeat} (h : Feeds cs s t out)
    (h' : Feeds ds t u out') : Feeds (cs ++ ds) s u (out ++ out') := fun ws => by
  rw [List.map_append, List.append_assoc, h, h', List.append_assoc]

/-- Feeding is a function. -/
theorem Feeds.out_eq {cs : List Byte} {s t t' : State} {out out' : List OutBeat} (h : Feeds cs s t out)
    (h' : Feeds cs s t' out') : out = out' := by
  have heq := congrArg Prod.snd ((h []).symm.trans (h' []))
  simpa [feedRld] using heq

theorem Reaches.nil {s : State} {P : RldUnit → List OutBeat → Prop} (h : P s.rld []) : Reaches [] s P :=
  ⟨s, [], fun _ => rfl, h⟩

theorem Reaches.mono {cs : List Byte} {s : State} {P Q : RldUnit → List OutBeat → Prop} (h : Reaches cs s P)
    (hPQ : ∀ u out, P u out → Q u out) : Reaches cs s Q := by
  obtain ⟨t, out, hfeed, hP⟩ := h
  exact ⟨t, out, hfeed, hPQ _ _ hP⟩

/-- What is reached with some output, and from there with more. -/
theorem Reaches.append {cs ds : List Byte} {s : State} {P Q : RldUnit → List OutBeat → Prop} (h : Reaches cs s P)
    (h' : ∀ t out, P t.rld out → Reaches ds t fun u out' => Q u (out ++ out')) : Reaches (cs ++ ds) s Q := by
  obtain ⟨t, out, hfeed, hP⟩ := h
  obtain ⟨u, out', hfeed', hQ⟩ := h' t out hP
  exact ⟨u, out ++ out', hfeed.append hfeed', hQ⟩

section
variable {r h : Nat} {done : List (List Byte)} {placed : List Nibble} {pending : Nat} {s : State}

/-- One character in a row: the operation of its class, its output taken. -/
theorem reaches_char (hin : InRow r h done placed pending s.rld) (c : Byte) {P : RldUnit → List OutBeat → Prop}
    (hP : P ((classOf c).op s.rld).drained ((classOf c).op s.rld).outq) : Reaches [c] s P := by
  refine ⟨s.withRld ((classOf c).op s.rld).drained, _, fun ws => ?_, hP⟩
  rw [← beatOp_char]
  exact feedRld_cons_ready hin.state hin.queue _ ws

/-- Characters that keep the RLD inside its row, then others. -/
theorem Reaches.append_inside {cs ds : List Byte} {P : RldUnit → List OutBeat → Prop}
    (hcs : Reaches cs s (InsideRow r h done placed pending))
    (hds : ∀ t : State, InRow r h done placed pending t.rld → Reaches ds t P) : Reaches (cs ++ ds) s P :=
  hcs.append fun t out ⟨hout, hin⟩ => by
    subst hout
    exact hds t hin

/-- Multiplier characters add their counts, where the rest of the row can hold the sum (R272, R273). -/
theorem reaches_counts (hleft : done.length < h) (cs : List Byte) (hcs : ∀ x ∈ cs, (alutDecode x).isSome) :
    ∀ (s : State) (pending : Nat), InRow r h done placed pending s.rld →
      placed.length + (pending + (cs.map multCount).sum) ≤ 2 * r →
      Reaches cs s (InsideRow r h done placed (pending + (cs.map multCount).sum)) := by
  induction cs with
  | nil => exact fun s pending hin _ => .nil ⟨rfl, hin⟩
  | cons c cs ih =>
    intro s pending hin hfit
    obtain ⟨hc, hrest⟩ := List.forall_mem_cons.1 hcs
    rw [List.map_cons, List.sum_cons] at hfit ⊢
    rw [← Nat.add_assoc]
    have hone : Reaches [c] s (InsideRow r h done placed (pending + multCount c)) :=
      reaches_char hin c (by
        rw [classOf_of_alutDecode hc]
        exact (hin.after_mult hleft (by omega)).drained)
    exact hone.append_inside fun t ht => ih hrest t _ ht (by omega)

end

end Sys2Proof.Machine
end

section
/-! Characters that place nibbles in a row, wherever these fit, and characters that complete a row: tokens, hex rows and
folded rows (R185, R212..R215, R277..R280). -/

namespace Sys2Proof.Machine


/-- The nibbles `row` placed in a row that is to be `b`: inside it, or at its end. -/
def Landed (r h : Nat) (done : List (List Byte)) (b : List Byte) (row : List Nibble) (u : RldUnit)
    (out : List OutBeat) : Prop :=
  (row = rowNibbles b ∧ AtRowEnd r h done b u out) ∨ (row ≠ rowNibbles b ∧ InsideRow r h done row 0 u out)

/-- Characters that, `pending` counted, place the nibbles `ns`, in every row that goes on with them. -/
def PlacesAfter (r h pending : Nat) (cs : List Byte) (ns : List Nibble) : Prop :=
  ∀ (done : List (List Byte)) (b : List Byte) (placed : List Nibble) (s : State), done.length < h → b.length = r →
    placed ++ ns <+: rowNibbles b → InRow r h done placed pending s.rld →
    Reaches cs s (Landed r h done b (placed ++ ns))

/-- Characters that complete every row that ends with the nibbles `ns`. -/
def Completes (r h : Nat) (cs : List Byte) (ns : List Nibble) : Prop :=
  ∀ (done : List (List Byte)) (b : List Byte) (placed : List Nibble) (s : State), done.length < h → b.length = r →
    placed ++ ns = rowNibbles b → InRow r h done placed 0 s.rld → Reaches cs s (AtRowEnd r h done b)

section
variable {r h : Nat}

theorem length_le_of_isPrefix {b : List Byte} (hb : b.length = r) {placed ns : List Nibble}
    (hpre : placed ++ ns <+: rowNibbles b) : placed.length + ns.length ≤ 2 * r := by
  have := hpre.length_le
  rwa [List.length_append, rowNibbles_length, hb] at this

theorem isPrefix_of_append {row ms ns : List Nibble} (hpre : row ++ ms <+: ns) : row <+: ns :=
  List.IsPrefix.trans ⟨ms, rfl⟩ hpre

/-- A part of a row with more to come is not the whole row. -/
theorem append_ne_rowNibbles {b : List Byte} {row ms : List Nibble} (hms : ms ≠ [])
    (hpre : row ++ ms <+: rowNibbles b) : row ≠ rowNibbles b := by
  rintro rfl
  exact hms (by simpa using hpre.length_le)

theorem Landed.inside {done : List (List Byte)} {b : List Byte} {row : List Nibble} {u : RldUnit}
    {out : List OutBeat} (hl : Landed r h done b row u out) (hne : row ≠ rowNibbles b) :
    InsideRow r h done row 0 u out :=
  hl.elim (fun ⟨heq, _⟩ => absurd heq hne) And.right

theorem Landed.atRowEnd {done : List (List Byte)} {b : List Byte} {row : List Nibble} {u : RldUnit}
    {out : List OutBeat} (hl : Landed r h done b row u out) (heq : row = rowNibbles b) :
    AtRowEnd r h done b u out :=
  hl.elim And.right fun ⟨hne, _⟩ => absurd heq hne

theorem PlacesAfter.completes {cs : List Byte} {ns : List Nibble} (hcs : PlacesAfter r h 0 cs ns) :
    Completes r h cs ns := fun done b placed s hleft hb hrow hin =>
  (hcs done b placed s hleft hb ⟨[], by rw [List.append_nil, hrow]⟩ hin).mono fun _ _ hl => hl.atRowEnd hrow

theorem PlacesAfter.append {pending : Nat} {cs ds : List Byte} {ns ms : List Nibble}
    (hcs : PlacesAfter r h pending cs ns) (hds : PlacesAfter r h 0 ds ms) (hms : ms ≠ []) :
    PlacesAfter r h pending (cs ++ ds) (ns ++ ms) := by
  intro done b placed s hleft hb hpre hin
  rw [← List.append_assoc] at hpre ⊢
  have hfirst := hcs done b placed s hleft hb (isPrefix_of_append hpre) hin
  exact (hfirst.mono fun _ _ hl => hl.inside (append_ne_rowNibbles hms hpre)).append_inside
    fun t ht => hds done b _ t hleft hb hpre ht

theorem PlacesAfter.append_completes {cs ds : List Byte} {ns ms : List Nibble} (hcs : PlacesAfter r h 0 cs ns)
    (hds : Completes r h ds ms) (hms : ms ≠ []) : Completes r h (cs ++ ds) (ns ++ ms) := by
  intro done b placed s hleft hb hrow hin
  rw [← List.append_assoc] at hrow
  have hpre : (placed ++ ns) ++ ms <+: rowNibbles b := ⟨[], by rw [List.append_nil, hrow]⟩
  have hfirst := hcs done b placed s hleft hb (isPrefix_of_append hpre) hin
  exact (hfirst.mono fun _ _ hl => hl.inside (append_ne_rowNibbles hms hpre)).append_inside
    fun t ht => hds done b _ t hleft hb hrow ht

/-- A data character places its nibble, as often as is counted and at least once (R277). -/
theorem placesAfter_digit {c : Byte} (hc : IsHexDigit c) (pending : Nat) :
    PlacesAfter r h pending [c] (List.replicate (max pending 1) (hexNibble c)) := by
  intro done b placed s hleft hb hpre hin
  have hfit := length_le_of_isPrefix hb hpre
  rw [List.length_replicate] at hfit
  refine reaches_char hin c ?_
  rw [hc]
  by_cases hrow : placed ++ List.replicate (max pending 1) (hexNibble c) = rowNibbles b
  · exact .inl ⟨hrow, hin.rowEnd_of_data hleft hb hrow⟩
  · have hlt : placed.length + max pending 1 ≠ 2 * r := fun heq => hrow (hpre.eq_of_length (by
      rw [List.length_append, List.length_replicate, rowNibbles_length, hb, heq]))
    exact .inr ⟨hrow, (hin.after_data hleft _ (by omega)).drained⟩

/-- Characters of the ALUT token of a count, then a data character: its nibble, that often (R213, R155). -/
theorem placesAfter_token {c : Byte} (hc : IsHexDigit c) {k : Nat} (h1 : 1 ≤ k) (h400 : k ≤ 400) :
    PlacesAfter r h 0 (tokenChars (alutEncode (BitVec.ofNat 16 k)) ++ [c]) (List.replicate k (hexNibble c)) := by
  intro done b placed s hleft hb hpre hin
  have hk : (BitVec.ofNat 16 k).toNat = k := by
    rw [BitVec.toNat_ofNat]
    omega
  have hsum := (sum_multCount_tokenChars (hk.symm ▸ h1) (hk.symm ▸ h400)).trans hk
  have hmult := isSome_alutDecode_tokenChars (hk.symm ▸ h1) (hk.symm ▸ h400)
  have hfit := length_le_of_isPrefix hb hpre
  rw [List.length_replicate] at hfit
  have hcount := reaches_counts hleft _ hmult s 0 hin (by omega)
  rw [hsum, Nat.zero_add] at hcount
  have hdigit := placesAfter_digit (r := r) (h := h) hc k
  rw [Nat.max_eq_left h1] at hdigit
  exact hcount.append_inside fun t ht => hdigit done b placed t hleft hb hpre ht

/-- `Tok(ch, c)` for a run of at most 400 characters (R213). -/
theorem placesAfter_shortTok {c : Byte} (hc : IsHexDigit c) {k : Nat} (h1 : 1 ≤ k) (h400 : k ≤ 400) :
    PlacesAfter r h 0 (shortTok c k) (List.replicate k (hexNibble c)) := by
  have hone : PlacesAfter r h 0 [c] [hexNibble c] := placesAfter_digit hc 0
  unfold shortTok
  split_ifs with hk1 hk2
  · rw [hk1]
    exact hone
  · rw [hk2]
    exact hone.append hone (List.cons_ne_nil _ _)
  · exact placesAfter_token hc h1 h400

/-- Pieces of 400 and a remainder (R215). -/
theorem placesAfter_pieces {c : Byte} (hc : IsHexDigit c) {k : Nat} (h1 : 1 ≤ k) (h400 : k ≤ 400) (pieces : Nat) :
    PlacesAfter r h 0 ((List.replicate pieces (shortTok c 400)).flatten ++ shortTok c k)
      (List.replicate (400 * pieces + k) (hexNibble c)) := by
  induction pieces with
  | zero => simpa using placesAfter_shortTok hc h1 h400
  | succ pieces ih =>
    have hpiece := (placesAfter_shortTok (r := r) (h := h) hc (k := 400) (by decide) le_rfl).append ih
      (by rw [Ne, List.replicate_eq_nil_iff]; omega)
    rw [List.replicate_append_replicate] at hpiece
    rw [List.replicate_succ, List.flatten_cons, List.append_assoc,
      show 400 * (pieces + 1) + k = 400 + (400 * pieces + k) by omega]
    exact hpiece

/-- `Tok(ch, c)` for a run of any length (R213). -/
theorem placesAfter_tok {c : Byte} (hc : IsHexDigit c) {k : Nat} (h1 : 1 ≤ k) :
    PlacesAfter r h 0 (tok c k) (List.replicate k (hexNibble c)) := by
  have hpieces := placesAfter_pieces (r := r) (h := h) hc (k := k - 400 * ((k - 1) / 400)) (by omega) (by omega)
    ((k - 1) / 400)
  rwa [show 400 * ((k - 1) / 400) + (k - 400 * ((k - 1) / 400)) = k by omega] at hpieces

/-! A whole row, folded or as it is (R185, R214). -/

/-- A row of hex characters as they are. -/
theorem placesAfter_digits {cs : List Byte} (hcs : ∀ c ∈ cs, IsHexDigit c) (hne : cs ≠ []) :
    PlacesAfter r h 0 cs (cs.map hexNibble) := by
  induction cs with
  | nil => exact absurd rfl hne
  | cons c cs ih =>
    obtain ⟨hc, hrest⟩ := List.forall_mem_cons.1 hcs
    have hone : PlacesAfter r h 0 [c] [hexNibble c] := placesAfter_digit hc 0
    by_cases hcs' : cs = []
    · rw [hcs']
      exact hone
    · exact hone.append (ih hrest hcs') (mt List.map_eq_nil_iff.1 hcs')

/-- A fill marker stands for the rest of the row, however long (R278, R279). -/
theorem completes_fill {c : Byte} {n : Nibble} (hclass : (classOf c).op = charFill n) (k : Nat) :
    Completes r h [c] (List.replicate k n) := by
  intro done b placed s hleft hb hrow hin
  refine reaches_char hin c ?_
  rw [hclass]
  exact hin.rowEnd_of_fill hleft hb hrow

/-- The nibbles that runs of hex characters stand for. -/
def runNibbles (runs : List (Byte × Nat)) : List Nibble := runs.flatMap fun p => List.replicate p.2 (hexNibble p.1)

/-- One character more before a row goes into the row's first run, or is a run of its own (R212). -/
theorem runsOf_cons_cases (c : Byte) (cs : List Byte) :
    runsOf (c :: cs) = (c, 1) :: runsOf cs ∨
    ∃ k rest, runsOf cs = (c, k) :: rest ∧ runsOf (c :: cs) = (c, k + 1) :: rest := by
  rw [runsOf]
  split
  next heq => exact .inl (by rw [heq])
  next d k rest heq =>
    split
    next hcd => exact .inr ⟨k, rest, by rw [heq, hcd], by rw [hcd]⟩
    next => exact .inl (by rw [heq])

theorem runsOf_ne_nil {cs : List Byte} (hne : cs ≠ []) : runsOf cs ≠ [] := by
  cases cs with
  | nil => exact absurd rfl hne
  | cons c cs => rcases runsOf_cons_cases c cs with he | ⟨k, rest, -, he⟩ <;> rw [he] <;> exact List.cons_ne_nil _ _

theorem mem_runsOf (cs : List Byte) : ∀ p ∈ runsOf cs, p.1 ∈ cs ∧ 1 ≤ p.2 := by
  induction cs with
  | nil => exact fun _ hp => absurd hp List.not_mem_nil
  | cons c cs ih =>
    have hlater : ∀ p ∈ runsOf cs, p.1 ∈ c :: cs ∧ 1 ≤ p.2 := fun p hp =>
      ⟨List.mem_cons_of_mem c (ih p hp).1, (ih p hp).2⟩
    rcases runsOf_cons_cases c cs with he | ⟨k, rest, hrest, he⟩ <;> rw [he]
    · exact List.forall_mem_cons.2 ⟨⟨List.mem_cons_self, le_rfl⟩, hlater⟩
    · rw [hrest] at hlater
      exact List.forall_mem_cons.2
        ⟨⟨List.mem_cons_self, Nat.le_add_left 1 k⟩, (List.forall_mem_cons.1 hlater).2⟩

theorem runNibbles_runsOf (cs : List Byte) : runNibbles (runsOf cs) = cs.map hexNibble := by
  induction cs with
  | nil => rfl
  | cons c cs ih =>
    rw [List.map_cons, ← ih]
    rcases runsOf_cons_cases c cs with he | ⟨k, rest, hrest, he⟩
    · rw [he]
      rfl
    · rw [he, hrest]
      rfl

theorem runNibbles_ne_nil {runs : List (Byte × Nat)} (hne : runs ≠ []) (hpos : ∀ p ∈ runs, 1 ≤ p.2) :
    runNibbles runs ≠ [] := by
  obtain ⟨p, rest, rfl⟩ := List.exists_cons_of_ne_nil hne
  have hp : 1 ≤ p.2 := hpos p List.mem_cons_self
  rw [runNibbles, List.flatMap_cons, ← List.length_pos_iff, List.length_append, List.length_replicate]
  omega

/-- A run before others goes by the general token (R214). -/
theorem foldRuns_cons (c : Byte) (k : Nat) {rest : List (Byte × Nat)} (hrest : rest ≠ []) :
    foldRuns ((c, k) :: rest) = tok c k ++ foldRuns rest := by
  cases rest with
  | nil => exact absurd rfl hrest
  | cons p rest => rfl

/-- The last run of a row, by the shortcuts of R214. -/
theorem completes_lastRun {c : Byte} (hc : IsHexDigit c) {k : Nat} (h1 : 1 ≤ k) :
    Completes r h (foldRuns [(c, k)]) (List.replicate k (hexNibble c)) := by
  unfold foldRuns
  split_ifs with hwhite hblack
  · rw [hwhite]
    exact completes_fill rfl k
  · rw [hblack]
    exact completes_fill rfl k
  · exact (placesAfter_tok hc h1).completes

/-- A row's tokens, run by run (R214). -/
theorem completes_foldRuns (runs : List (Byte × Nat)) (hne : runs ≠ [])
    (hruns : ∀ p ∈ runs, IsHexDigit p.1 ∧ 1 ≤ p.2) : Completes r h (foldRuns runs) (runNibbles runs) := by
  induction runs with
  | nil => exact absurd rfl hne
  | cons p rest ih =>
    obtain ⟨⟨hc, hk⟩, htail⟩ := List.forall_mem_cons.1 hruns
    rw [runNibbles, List.flatMap_cons]
    by_cases hrest : rest = []
    · rw [hrest, List.flatMap_nil, List.append_nil]
      exact completes_lastRun hc hk
    · rw [foldRuns_cons _ _ hrest]
      exact (placesAfter_tok hc hk).append_completes (ih hrest htail)
        (runNibbles_ne_nil hrest fun q hq => (htail q hq).2)

theorem completes_hexRow (upper : Bool) {row : List Byte} (hrow : row ≠ []) :
    Completes r h (hexRow upper row) (rowNibbles row) := by
  rw [← map_hexNibble_hexRow upper]
  exact (placesAfter_digits (fun _ hc => isHexDigit_of_mem_hexRow hc) (hexRow_ne_nil hrow upper)).completes

theorem completes_foldRow_hexRow (upper : Bool) {row : List Byte} (hrow : row ≠ []) :
    Completes r h (foldRow (hexRow upper row)) (rowNibbles row) := by
  rw [← map_hexNibble_hexRow upper, ← runNibbles_runsOf]
  refine completes_foldRuns _ (runsOf_ne_nil (hexRow_ne_nil hrow upper)) fun p hp => ?_
  obtain ⟨hmem, hpos⟩ := mem_runsOf _ p hp
  exact ⟨isHexDigit_of_mem_hexRow hmem, hpos⟩

end

end Sys2Proof.Machine
end

section
/-! The round trips: whole bodies, row by row, from a start to the End beat (R216, R217, R219). -/

namespace Sys2Proof.Machine

section
variable {r h : Nat} {done rows : List (List Byte)} {b : List Byte} {s : State}

/-- The rows `rows` put out one after another, behind the rows `done`. -/
def RowsOut (r h : Nat) (done rows : List (List Byte)) (u : RldUnit) (out : List OutBeat) : Prop :=
  out = rows.flatMap rowBeats ∧ InRow r h (done ++ rows) [] 0 u

theorem Completes.reaches {cs : List Byte} (hcs : Completes r h cs (rowNibbles b)) (hleft : done.length < h)
    (hb : b.length = r) (hin : InRow r h done [] 0 s.rld) : Reaches cs s (AtRowEnd r h done b) :=
  hcs done b [] s hleft hb rfl hin

/-- A row put out, then others. -/
theorem Reaches.append_rows {cs ds : List Byte} (hcs : Reaches cs s (AtRowEnd r h done b))
    (hds : ∀ t : State, InRow r h (done ++ [b]) [] 0 t.rld → Reaches ds t (RowsOut r h (done ++ [b]) rows)) :
    Reaches (cs ++ ds) s (RowsOut r h done (b :: rows)) :=
  hcs.append fun t out ⟨hout, hin⟩ => (hds t hin).mono fun u out' ⟨hout', hin'⟩ => by
    rw [List.append_assoc] at hin'
    exact ⟨by rw [hout, hout', List.flatMap_cons], hin'⟩

theorem reaches_noRows (hin : InRow r h done [] 0 s.rld) : Reaches [] s (RowsOut r h done []) :=
  .nil ⟨rfl, by rwa [List.append_nil]⟩

/-- A line feed between two rows is skipped (R285). -/
theorem reaches_lineFeed (hin : InRow r h done [] 0 s.rld) : Reaches [0x0A#8] s (InsideRow r h done [] 0) :=
  reaches_char hin 0x0A#8 hin.after_skip.drained

theorem joinRows_singleton (row : List Byte) : joinRows [row] = row := List.append_nil row

theorem joinRows_cons_cons (row row' : List Byte) (rows : List (List Byte)) :
    joinRows (row :: row' :: rows) = row ++ ([0x0A#8] ++ joinRows (row' :: rows)) := rfl

/-- The newline-joined body, row by row. -/
theorem reaches_joinRows (hr : 1 ≤ r) (upper : Bool) (rows : List (List Byte)) :
    ∀ (done : List (List Byte)) (s : State), rows ≠ [] → (∀ row ∈ rows, row.length = r) →
      done.length + rows.length ≤ h → InRow r h done [] 0 s.rld →
      Reaches (joinRows (rows.map (hexRow upper))) s (RowsOut r h done rows) := by
  induction rows with
  | nil => exact fun _ _ hne => absurd rfl hne
  | cons b rows ih =>
    intro done s _ hlen hfit hin
    obtain ⟨hb, hrest⟩ := List.forall_mem_cons.1 hlen
    rw [List.length_cons] at hfit
    have hrow := (completes_hexRow upper (List.length_pos_iff.1 (by omega))).reaches (by omega) hb hin
    cases rows with
    | nil =>
      rw [List.map_singleton, joinRows_singleton, ← List.append_nil (hexRow upper b)]
      exact hrow.append_rows fun _ ht => reaches_noRows ht
    | cons b' rows =>
      rw [List.map_cons, List.map_cons, joinRows_cons_cons, ← List.map_cons]
      have hfit' : (done ++ [b]).length + (b' :: rows).length ≤ h := by
        rw [List.length_append, List.length_singleton]
        omega
      exact hrow.append_rows fun _ ht => (reaches_lineFeed ht).append_inside fun u hu =>
        ih (done ++ [b]) u (List.cons_ne_nil _ _) hrest hfit' hu

/-- Two rows of one length that fold alike are the same row: the RLD reads each from its fold. -/
theorem eq_of_foldRow_eq (hr : 1 ≤ r) {upper : Bool} {b' : List Byte} (hleft : done.length < h) (hb : b.length = r)
    (hb' : b'.length = r) (hin : InRow r h done [] 0 s.rld)
    (heq : foldRow (hexRow upper b) = foldRow (hexRow upper b')) : b = b' := by
  have hcs := completes_foldRow_hexRow (r := r) (h := h) upper (List.length_pos_iff.1 (hb.symm ▸ hr))
  have hcs' := completes_foldRow_hexRow (r := r) (h := h) upper (List.length_pos_iff.1 (hb'.symm ▸ hr))
  obtain ⟨_, _, hfeed, rfl, -⟩ := hcs.reaches hleft hb hin
  obtain ⟨_, _, hfeed', rfl, -⟩ := hcs'.reaches hleft hb' hin
  exact rowBeats_injective (hfeed.out_eq (heq ▸ hfeed'))

/-- The fold of the row before, as `compressAfter` is given it (R216). -/
def lastFold (upper : Bool) (done : List (List Byte)) : Option (List Byte) :=
  done.getLast?.map fun b => foldRow (hexRow upper b)

/-- What R216 writes for one row behind the rows `done`: `:` puts the row before out again, which is this row. -/
theorem reaches_rowOrRepeat (hr : 1 ≤ r) (upper : Bool) (hleft : done.length < h) (hb : b.length = r)
    (hin : InRow r h done [] 0 s.rld) :
    Reaches (if lastFold upper done = some (foldRow (hexRow upper b)) then [0x3A#8] else foldRow (hexRow upper b)) s
      (AtRowEnd r h done b) := by
  split
  next hsame =>
    obtain ⟨b', hlast, hfold⟩ := Option.map_eq_some_iff.1 hsame
    obtain ⟨hb', -⟩ := hin.prev_row b' hlast
    obtain rfl := eq_of_foldRow_eq hr hleft hb' hb hin hfold
    exact reaches_char hin 0x3A#8 (hin.rowEnd_of_repeat hleft hlast)
  next => exact (completes_foldRow_hexRow upper (List.length_pos_iff.1 (hb.symm ▸ hr))).reaches hleft hb hin

/-- The compressed body, row by row. -/
theorem reaches_compressAfter (hr : 1 ≤ r) (upper : Bool) (rows : List (List Byte)) :
    ∀ (done : List (List Byte)) (s : State), (∀ row ∈ rows, row.length = r) → done.length + rows.length ≤ h →
      InRow r h done [] 0 s.rld →
      Reaches (compressAfter (lastFold upper done) (rows.map (hexRow upper))) s (RowsOut r h done rows) := by
  induction rows with
  | nil => exact fun _ _ _ _ hin => reaches_noRows hin
  | cons b rows ih =>
    intro done s hlen hfit hin
    obtain ⟨hb, hrest⟩ := List.forall_mem_cons.1 hlen
    rw [List.length_cons] at hfit
    have hlast : lastFold upper (done ++ [b]) = some (foldRow (hexRow upper b)) := by
      rw [lastFold, List.getLast?_concat, Option.map_some]
    rw [List.map_cons, compressAfter_cons, ← hlast]
    have hrow := reaches_rowOrRepeat hr upper (by omega) hb hin
    rw [← hlast] at hrow
    have hfit' : (done ++ [b]).length + rows.length ≤ h := by
      rw [List.length_append, List.length_singleton]
      omega
    exact hrow.append_rows fun t ht => ih (done ++ [b]) t hrest hfit' ht

end

/-- A body that puts out the rows, from the start of the first row on, decodes to them: after RLD_START it leads
there, and the End beat after it ends the run (R241, R246). -/
theorem exists_decoded_of_reaches {body : List Byte} {rows : List (List Byte)} {d : Word32} {s : State}
    (hne : rows ≠ []) (hR : 1 ≤ s.csr.rowbytes.toNat) (hmax : s.csr.rowbytes.toNat ≤ Config.rbMax)
    (htotal : s.csr.total.toNat = s.csr.rowbytes.toNat * rows.length) (hlen : s.csr.bodylen = 0)
    (hstart : d.getLsbD 8 = true) (hpix : d.getLsbD 2 = false) (hq : s.rld.outq = [])
    (hbody : ∀ t : State, InRow s.csr.rowbytes.toNat rows.length [] [] 0 t.rld →
      Reaches body t (RowsOut s.csr.rowbytes.toNat rows.length [] rows)) :
    ∃ t u out, exec (.rldStart d) s = .next t ∧ feedRld (bodyBeats body) t = (u, out) ∧
      u.rld.state = .done ∧ u.rld.err = .none ∧ out = rows.flatMap rowBeats := by
  have hin : InRow s.csr.rowbytes.toNat rows.length [] [] 0 (ctrlWrite d s).rld := by
    rw [ctrlWrite_rld, if_pos hstart]
    exact inRow_rldStart (c := (ctrlWrite d s).csr) hR hmax (List.length_pos_iff.2 hne) htotal hlen hpix hq
  obtain ⟨t, out, hfeed, hout, hlast⟩ := hbody _ hin
  have hend : beatOp endBeatWord t.rld = { t.rld with state := .done } := hlast.endBody_eq rfl
  have hqueue := hlast.queue
  refine ⟨_, t.withRld { t.rld with state := .done, outq := [] }, _, rfl, ?_, rfl, hlast.err, hout⟩
  rw [bodyBeats, hfeed, feedRld_cons_ready hlast.state hlast.queue, hend, hqueue]
  simp only [feedRld, List.append_nil]
  rfl

/-- Settles O49, by induction on the rows. -/
theorem joinedBodyDecodesToItsRows : Obligations.JoinedBodyDecodesToItsRows :=
  fun upper rows _ _ hne hrows hR hmax htotal hlen hstart hpix hq =>
    exists_decoded_of_reaches hne hR hmax htotal hlen hstart hpix hq fun t ht =>
      reaches_joinRows hR upper rows [] t hne hrows (by simp) ht

/-- Settles O50, by induction on the rows; a row that repeats the fold before it repeats the row before it. -/
theorem compressedBodyDecodesToItsRows : Obligations.CompressedBodyDecodesToItsRows :=
  fun upper rows _ _ hne hrows hR hmax htotal hlen hstart hpix hq =>
    exists_decoded_of_reaches hne hR hmax htotal hlen hstart hpix hq fun t ht =>
      reaches_compressAfter hR upper rows [] t hrows (by simp) ht

end Sys2Proof.Machine
end

section
/-! RLD control: start, abort and the End beat, and the events that move the RLD's unit state (R240..R246, R302,
R338, R345). -/

namespace Sys2Proof.Machine

/-! A CTRL write at the RLD (R244, R302). -/

theorem rldStartNames_subset (d : Word32) : [.rldStart d, .ctrlWrite d] ⊆ ctrlNames d := by simp [ctrlNames]

theorem rldAbortNames_subset (d : Word32) : [.rldAbort d, .ctrlWrite d] ⊆ ctrlNames d := by simp [ctrlNames]

theorem ctrlWrite_rld_of_start {d : Word32} (hstart : d.getLsbD 8 = true) (s : State) :
    (ctrlWrite d s).rld = rldStart (ctrlWrite d s).csr s.rld := if_pos hstart

theorem ctrlWrite_rld_of_abort {d : Word32} (hstart : d.getLsbD 8 = false) (habort : d.getLsbD 9 = true) (s : State) :
    (ctrlWrite d s).rld = rldAbort s.rld :=
  (if_neg (Bool.eq_false_iff.1 hstart)).trans (if_pos habort)

/-- Settles O25: both names mean the whole CTRL write, and this one is an abort. -/
theorem rldAbortGoesToIdle : Obligations.RldAbortGoesToIdle := fun d s hstart habort i hi =>
  ⟨_, exec_ctrlNames d s i (rldAbortNames_subset d hi), ctrlWrite_rld_of_abort hstart habort s⟩

/-- Of the data of a write that starts the RLD, bits 0, 1 and 2 are all that is read further. -/
theorem ctrlWrite_eq_of_start {d d' : Word32} (hstart : d.getLsbD 8 = true) (hstart' : d'.getLsbD 8 = true)
    (hen : d'.getLsbD 0 = d.getLsbD 0) (hupper : d'.getLsbD 1 = d.getLsbD 1) (hpixel : d'.getLsbD 2 = d.getLsbD 2)
    (s : State) : ctrlWrite d' s = ctrlWrite d s := by
  simp only [ctrlWrite, hstart, hstart', hen, hupper, hpixel, if_true]

/-- Settles O26: the cleared data agree with the others on every bit that a start reads. -/
theorem startOverridesAbort : Obligations.StartOverridesAbort := by
  intro d s hstart
  have hwrite : ctrlWrite (d &&& 0xFFFFFDFF#32) s = ctrlWrite d s := by
    apply ctrlWrite_eq_of_start hstart <;> simp [hstart]
  rw [decode_ctrl, decode_ctrl, exec_decodeCtrl, exec_decodeCtrl]
  exact congrArg Host.Outcome.next hwrite.symm

/-! The checks of a start (R241, R242, R338). -/

/-- The first check of R241 that these register contents fail, or `none`. -/
def startCheck (c : Csr) : Detail :=
  if c.rowbytes.toNat = 0 then .rZero
  else if Config.rbMax < c.rowbytes.toNat then .rAboveMax
  else if c.total.toNat = 0 then .totalZero
  else if c.total.toNat % c.rowbytes.toNat ≠ 0 then .totalNotMultiple
  else .none

/-- A start raises the check that fails, or starts a run of T div R rows, R dividing T (R241). -/
theorem rldStart_check_cases (c : Csr) (u : RldUnit) :
    (startCheck c ≠ .none ∧ rldStart c u = (u.latch c).raise (startCheck c)) ∨
    (startCheck c = .none ∧ c.total.toNat % c.rowbytes.toNat = 0 ∧
      rldStart c u = { u.latch c with
        height := BitVec.ofNat 32 (c.total.toNat / c.rowbytes.toNat), state := .run }) := by
  rcases rldStart_cases c u with ⟨h0, he⟩ | ⟨h0, h1, he⟩ | ⟨h0, h1, h2, he⟩ | ⟨h0, h1, h2, h3, he⟩ |
    ⟨h0, h1, h2, h3, he⟩
  · have hcheck : startCheck c = .rZero := if_pos h0
    exact .inl ⟨by simp [hcheck], by rw [hcheck, he]⟩
  · have hcheck : startCheck c = .rAboveMax := by rw [startCheck, if_neg h0, if_pos h1]
    exact .inl ⟨by simp [hcheck], by rw [hcheck, he]⟩
  · have hcheck : startCheck c = .totalZero := by rw [startCheck, if_neg h0, if_neg (Nat.not_lt.2 h1), if_pos h2]
    exact .inl ⟨by simp [hcheck], by rw [hcheck, he]⟩
  · have hcheck : startCheck c = .totalNotMultiple := by
      rw [startCheck, if_neg h0, if_neg (Nat.not_lt.2 h1), if_neg h2, if_pos h3]
    exact .inl ⟨by simp [hcheck], by rw [hcheck, he]⟩
  · refine .inr ⟨?_, h3, he⟩
    rw [startCheck, if_neg h0, if_neg (Nat.not_lt.2 h1), if_neg h2, if_neg (not_not.2 h3)]

/-- R_ZERO, R_ABOVE_MAX and TOTAL_ZERO are InvalidDimension, TOTAL_NOT_MULTIPLE is GeometryMismatch (R332). -/
theorem startCheck_kind {c : Csr} (hfail : startCheck c ≠ .none) : (startCheck c).kind =
    if startCheck c = .totalNotMultiple then .geometryMismatch else .invalidDimension := by
  unfold startCheck at hfail ⊢
  split_ifs at hfail ⊢ <;> trivial

/-- T div R fits the 32 bits of Height, and is exact where R divides T. -/
theorem toNat_height_mul {r : BitVec 16} {t : Word32} (hdvd : t.toNat % r.toNat = 0) :
    (BitVec.ofNat 32 (t.toNat / r.toNat)).toNat * r.toNat = t.toNat := by
  rw [BitVec.toNat_ofNat, Nat.mod_eq_of_lt ((Nat.div_le_self _ _).trans_lt t.isLt)]
  exact Nat.div_mul_cancel (Nat.dvd_of_mod_eq_zero hdvd)

/-- Settles O24: a check fails, or none does. -/
theorem rldStartLatchesAndChecks : Obligations.RldStartLatchesAndChecks := by
  intro d s hstart i hi r n v
  have hv : v = startCheck (ctrlWrite d s).csr := rfl
  refine ⟨_, exec_ctrlNames d s i (rldStartNames_subset d hi), ?_⟩
  rw [ctrlWrite_rld_of_start hstart, hv]
  rcases rldStart_check_cases (ctrlWrite d s).csr s.rld with ⟨hfail, he⟩ | ⟨hpass, hdvd, he⟩ <;> rw [he]
  · refine ⟨?_, fun _ => rfl, fun hpass => absurd hpass hfail⟩
    rw [if_neg hfail, if_neg hfail, ← startCheck_kind hfail]
    rfl
  · refine ⟨?_, fun hfail => absurd hpass hfail, fun _ => toNat_height_mul hdvd⟩
    rw [if_pos hpass, if_pos hpass, hpass]
    rfl

/-! The End beat (R246). -/

theorem exec_endBeat_ready {s : State} (hrun : s.rld.state = .run) (hq : s.rld.outq = []) (c : Byte) :
    exec (.endBeat c) s = .next (s.withRld (endBody s.rld)) :=
  rldBeat_ready endBody s ((rldInReady_iff s).2 ⟨hrun, hq⟩)

/-- Settles O23: each of the three checks fails, or none does. -/
theorem endBeatChecksAndEnds : Obligations.EndBeatChecksAndEnds := by
  intro c s hrun hq
  rw [exec_endBeat_ready hrun hq]
  rcases endBody_cases s.rld with ⟨hcount, he⟩ | ⟨hcount, hshort, he⟩ | ⟨hcount, hrows, hlen, hne, he⟩ |
    ⟨hcount, hrows, hlen, he⟩ <;> rw [he]
  · rw [if_pos hcount]
    rfl
  · rw [if_neg (not_not.2 hcount), if_pos hshort]
    rfl
  · rw [if_neg (not_not.2 hcount), if_neg (Nat.not_lt.2 hrows), if_pos ⟨hlen, hne⟩]
    rfl
  · have hlength : ¬ (s.rld.bodylen ≠ 0 ∧ s.rld.bodycnt ≠ s.rld.bodylen) := fun ⟨h0, hne⟩ => hlen.elim h0 hne
    rw [if_neg (not_not.2 hcount), if_neg (Nat.not_lt.2 hrows), if_neg hlength]

/-! The events that move the unit state (R240). -/

/-- `f` leaves the unit state as it is, or raises an error. -/
def KeepsStateOrRaises (f : RldUnit → RldUnit) : Prop :=
  ∀ u : RldUnit, (f u).state = u.state ∨ (f u).state = .error

theorem keepsStateOrRaises_addMult (v : Nat) : KeepsStateOrRaises (addMult v) := fun u => by
  rcases addMult_cases v u with ⟨-, he⟩ | ⟨-, he⟩ <;> rw [he]
  · exact .inr rfl
  · exact .inl rfl

theorem keepsStateOrRaises_placeData (n : Nibble) : KeepsStateOrRaises (placeData n) := fun u => by
  rcases placeData_cases n u with ⟨-, he⟩ | ⟨-, he⟩ | ⟨-, he⟩ <;> rw [he]
  · exact .inr rfl
  · exact .inl rfl
  · exact .inl rfl

theorem keepsStateOrRaises_fillRow (n : Nibble) : KeepsStateOrRaises (fillRow n) := fun u => by
  rcases fillRow_cases n u with ⟨-, he⟩ | ⟨-, he⟩ <;> rw [he]
  · exact .inr rfl
  · exact .inl rfl

theorem keepsStateOrRaises_repeatPrev : KeepsStateOrRaises repeatPrev := fun u => by
  rcases repeatPrev_cases u with ⟨-, he⟩ | ⟨-, -, he⟩ | ⟨-, -, -, he⟩ | ⟨-, -, -, he⟩ <;> rw [he]
  · exact .inr rfl
  · exact .inr rfl
  · exact .inr rfl
  · exact .inl rfl

theorem KeepsStateOrRaises.charBody {f : RldUnit → RldUnit} (hf : KeepsStateOrRaises f) :
    KeepsStateOrRaises (charBody f) := fun u => by
  rcases charBody_cases f u with ⟨-, he⟩ | ⟨-, he⟩ <;> rw [he]
  · exact .inr rfl
  · exact hf u.countChar

/-- No Char beat ends a run but by an error. -/
theorem CharClass.keepsStateOrRaises_op : ∀ k : CharClass, KeepsStateOrRaises k.op
  | .data n => (keepsStateOrRaises_placeData n).charBody
  | .mult v => (keepsStateOrRaises_addMult v).charBody
  | .fillWhite => (keepsStateOrRaises_fillRow 0x0#4).charBody
  | .fillBlack => (keepsStateOrRaises_fillRow 0xF#4).charBody
  | .repeatRow => keepsStateOrRaises_repeatPrev.charBody
  | .skip => fun _ => .inl rfl
  | .invalid => fun _ => .inr rfl

theorem endBody_state (u : RldUnit) : (endBody u).state = .error ∨ (endBody u).state = .done := by
  rcases endBody_cases u with ⟨-, he⟩ | ⟨-, -, he⟩ | ⟨-, -, -, -, he⟩ | ⟨-, -, -, he⟩ <;> rw [he]
  · exact .inl rfl
  · exact .inl rfl
  · exact .inl rfl
  · exact .inr rfl

/-- An accepted beat that moves the unit state raises an error, or is the End beat and ends the run. -/
theorem beatOp_state_of_ne {w : BitVec 9} {u : RldUnit} (hmoved : (beatOp w u).state ≠ u.state) :
    (beatOp w u).state = .error ∨ (w.getLsbD 8 = true ∧ (beatOp w u).state = .done) := by
  cases hend : w.getLsbD 8 with
  | true =>
    have hop : beatOp w = endBody := if_pos hend
    rw [hop]
    exact (endBody_state u).imp_right fun hdone => ⟨rfl, hdone⟩
  | false =>
    have hop : beatOp w = (classOf (w.extractLsb' 0 8)).op := if_neg (Bool.eq_false_iff.1 hend)
    rw [hop] at hmoved ⊢
    exact .inl (((classOf _).keepsStateOrRaises_op u).resolve_left hmoved)

theorem rldStart_state (c : Csr) (u : RldUnit) : (rldStart c u).state = .run ∨ (rldStart c u).state = .error := by
  rcases rldStart_check_cases c u with ⟨-, he⟩ | ⟨-, -, he⟩ <;> rw [he]
  · exact .inr rfl
  · exact .inl rfl

/-- Settles O40, by the turn that the step takes. -/
theorem rldStateMovesOnlyAsListed : Obligations.RldStateMovesOnlyAsListed := by
  intro s t h hmoved
  cases step_turnTaken h with
  | idle => exact absurd rfl hmoved
  | hostRead => exact absurd rfl hmoved
  | @hostWrite w ws ts hs hin hw =>
    refine ⟨ts, .inr (.inl ⟨w, ws, hs, hin, hw, ?_⟩)⟩
    rcases hostWrite_rld_cases (w.extractLsb' 32 8) (w.extractLsb' 0 32)
      { s with schedule := ts, hostIn := ws } with hr | ⟨ha, hstart, hr⟩ | ⟨ha, hstart, habort, hr⟩
    · exact absurd (congrArg RldUnit.state hr) hmoved
    · rw [hostData_getLsbD (by decide)] at hstart
      exact ⟨ha, .inl ⟨hstart, hr ▸ rldStart_state _ _⟩⟩
    · rw [hostData_getLsbD (by decide)] at hstart habort
      exact ⟨ha, .inr ⟨hstart, habort, congrArg RldUnit.state hr⟩⟩
  | hexBeat => exact absurd rfl hmoved
  | @rldBeat w ws ts hs hin hrun hq =>
    exact ⟨ts, .inr (.inr ⟨w, ws, hs, hin, hrun, hq, beatOp_state_of_ne hmoved⟩)⟩
  | hexOut => exact absurd rfl hmoved
  | rldOut => exact absurd rfl hmoved
  | @rst ts hs => exact ⟨ts, .inl ⟨hs, rfl⟩⟩

end Sys2Proof.Machine
end

section
/-! The body characters: what each class does to an RLD that accepts it, for every row of the class (R270..R285). -/

namespace Sys2Proof.Machine

/-! The rows of each class mean the operation of their class (R113, R118). -/

theorem exec_multRow : ∀ p ∈ Instr.multLowRows ++ Instr.multHighRows, exec p.1 = rldBeat (charMult p.2) :=
  List.map_inj_left.1 rfl

theorem exec_dataRow : ∀ p ∈ Instr.dataDigitRows ++ Instr.dataLowerRows ++ Instr.dataUpperRows,
    exec p.1 = rldBeat (charData p.2) :=
  List.map_inj_left.1 rfl

theorem exec_fillRow : ∀ p ∈ ([(.fillWhite, 0x0#4), (.fillBlack, 0xF#4)] : List (Instr × Nibble)),
    exec p.1 = rldBeat (charFill p.2) :=
  List.map_inj_left.1 rfl

theorem exec_repeatRow : exec .repeatRow = rldBeat charRepeat := rfl

theorem exec_skipRow : ∀ i ∈ Instr.skipRows, exec i = rldBeat charSkip :=
  List.map_inj_left.1 rfl

theorem exec_invalidRow : ∀ i ∈ Instr.invalidRows, exec i = rldBeat charInvalid := by
  unfold Instr.invalidRows
  simp only [List.forall_mem_append]
  exact ⟨⟨List.map_inj_left.1 rfl, List.map_inj_left.1 rfl⟩, List.map_inj_left.1 rfl⟩

/-- The rows that EXTRA_DATA stops are the body characters, whose operation begins with the prologue of R271. -/
theorem exec_bodyRow {i : Instr} (hi : i ∈ bodyRows) : ∃ f, exec i = rldBeat (charBody f) := by
  have hrows : i ∈ (Instr.multLowRows ++ Instr.multHighRows).map Prod.fst ++
      (Instr.dataDigitRows ++ Instr.dataLowerRows ++ Instr.dataUpperRows).map Prod.fst ++
      [.fillWhite, .fillBlack, .repeatRow] := by
    simpa only [bodyRows, List.map_append, List.append_assoc] using hi
  rcases List.mem_append.1 hrows with hcounted | hmark
  · rcases List.mem_append.1 hcounted with hmult | hdata
    · obtain ⟨p, hp, rfl⟩ := List.mem_map.1 hmult
      exact ⟨addMult p.2, exec_multRow p hp⟩
    · obtain ⟨p, hp, rfl⟩ := List.mem_map.1 hdata
      exact ⟨placeData p.2, exec_dataRow p hp⟩
  · simp only [List.mem_cons, List.not_mem_nil, or_false] at hmark
    rcases hmark with rfl | rfl | rfl
    · exact ⟨fillRow 0x0#4, rfl⟩
    · exact ⟨fillRow 0xF#4, rfl⟩
    · exact ⟨repeatPrev, exec_repeatRow⟩

/-! An accepted character (R91, R270, R271, R340). -/

section
variable {s : State} {i : Instr} {f : RldUnit → RldUnit}

theorem exec_of_accepted (hexec : exec i = rldBeat f) (hrun : s.rld.state = .run) (hq : s.rld.outq = []) :
    exec i s = .next (s.withRld (f s.rld)) := by
  rw [hexec]
  exact rldBeat_ready f s ((rldInReady_iff s).2 ⟨hrun, hq⟩)

/-- Before the last row's end a body character does what its class's rule says. -/
theorem exec_of_rows_left (hexec : exec i = rldBeat (charBody f)) (hrun : s.rld.state = .run)
    (hq : s.rld.outq = []) (hrows : s.rld.rows ≠ s.rld.height) :
    exec i s = .next (s.withRld (f s.rld.countChar)) := by
  rw [exec_of_accepted hexec hrun hq]
  rcases charBody_cases f s.rld with ⟨heq, -⟩ | ⟨-, he⟩
  · exact absurd heq hrows
  · rw [he]

end

/-- An error raised in the character's own class (R332, R340). -/
theorem withRld_raise_eq_charError (s : State) (d : Detail) :
    s.withRld (s.rld.countChar.raise d) = charError d.kind d s := rfl

/-- A unit that differs from the counted one in its current row and cursor alone, with nothing pending, completes
its row with the nibbles that the row holds (R245). -/
theorem rowCompleted_completeRow {s : State} {v : RldUnit} {nib : Nat → Nibble} (hq : s.rld.outq = [])
    (hfix : v = { s.rld.countChar with cur := v.cur, cursor := v.cursor, counter := 0 })
    (hnib : ∀ i, i < 2 * s.rld.rb.toNat → v.curAt i = nib i) :
    RowCompleted nib s (s.withRld v.completeRow) := by
  generalize v.cur = b at hfix
  generalize v.cursor = p at hfix
  subst hfix
  exact {
    frame := rfl
    emitted := by
      rw [State.withRld_rld, RldUnit.completeRow_outq, RldUnit.rowOutput_eq_emittedRow]
      exact (congrArg (· ++ _) hq).trans (emittedRow_congr _ _ _ _ hnib)
    cur_row := hnib
    prev_row := fun i hi => by
      rw [State.withRld_rld, RldUnit.completeRow_prevAt]
      exact (if_pos hi).trans (hnib i hi) }

/-! The characters that no place in the body changes (R270). -/

/-- Settles O18: BAD_CHAR is raised before any other check. -/
theorem invalidCharacterRaisesBadChar : Obligations.InvalidCharacterRaisesBadChar := fun i hi _ hrun hq =>
  exec_of_accepted (exec_invalidRow i hi) hrun hq

/-- Settles O19: a skipped character is counted. -/
theorem skipOnlyCountsTheCharacter : Obligations.SkipOnlyCountsTheCharacter := fun i hi _ hrun hq =>
  exec_of_accepted (exec_skipRow i hi) hrun hq

/-! The body characters. -/

/-- Settles O17, by the prologue of every body character. -/
theorem extraDataAfterTheLastRow : Obligations.ExtraDataAfterTheLastRow := by
  intro i hi s hrun hq hall
  obtain ⟨f, hexec⟩ := exec_bodyRow hi
  rw [exec_of_accepted hexec hrun hq]
  rcases charBody_cases f s.rld with ⟨-, he⟩ | ⟨hne, -⟩
  · rw [he]
    exact congrArg Host.Outcome.next (withRld_raise_eq_charError s .extraData)
  · exact absurd hall hne

/-- Settles O16: the sum fits the rest of the row, and so the 17 bits of the counter, or overflows. -/
theorem multiplierAddsItsCount : Obligations.MultiplierAddsItsCount := by
  intro p hp s hrun hq hrows
  rw [exec_of_rows_left (exec_multRow p hp) hrun hq hrows]
  rcases addMult_cases p.2 s.rld.countChar with ⟨hover, he⟩ | ⟨hfits, he⟩ <;> rw [he]
  · exact ⟨fun hfits => absurd hover (Nat.not_lt.2 hfits), fun _ => rfl⟩
  · exact ⟨fun _ => ⟨rfl, RldUnit.toNat_ofNat_of_le_rowLen (hfits.trans (Nat.sub_le _ _))⟩,
      fun hover => absurd hover (Nat.not_lt.2 hfits)⟩

/-- Settles O20: the run ends inside the row, at its end, or beyond it. -/
theorem dataPlacesItsRun : Obligations.DataPlacesItsRun := by
  intro p hp s hrun hq hrows
  rw [exec_of_rows_left (exec_dataRow p hp) hrun hq hrows]
  rcases placeData_cases p.2 s.rld.countChar with ⟨hover, he⟩ | ⟨hinside, he⟩ | ⟨hend, he⟩ <;> rw [he]
  · exact ⟨fun hinside => absurd hinside hover.not_gt, fun hend => absurd hend hover.ne', fun _ => rfl⟩
  · refine ⟨fun _ => ⟨_, rfl, rfl, RldUnit.toNat_ofNat_of_le_rowLen hinside.le, fun i _ => ?_⟩, ?_, ?_⟩
    · exact RldUnit.fillCur_curAt s.rld.countChar _ _ _ i
    · exact fun hend => absurd hend hinside.ne
    · exact fun hover => absurd hover hinside.not_gt
  · refine ⟨fun hinside => absurd hend hinside.ne, fun _ => ⟨_, rfl, ?_⟩, fun hover => absurd hend hover.ne'⟩
    refine rowCompleted_completeRow hq rfl fun i hi => ?_
    refine (RldUnit.fillCur_curAt s.rld.countChar _ _ _ i).trans ?_
    exact if_congr (and_iff_left (hi.trans_eq hend.symm)) rfl rfl

/-- Settles O21: a multiplier is pending, or the rest of the row is filled. -/
theorem fillCompletesTheRow : Obligations.FillCompletesTheRow := by
  intro p hp s hrun hq hrows
  rw [exec_of_rows_left (exec_fillRow p hp) hrun hq hrows]
  rcases fillRow_cases p.2 s.rld.countChar with ⟨hpending, he⟩ | ⟨hzero, he⟩ <;> rw [he]
  · exact ⟨fun hzero => absurd hzero hpending, fun _ => rfl⟩
  · refine ⟨fun _ => ⟨_, rfl, ?_⟩, fun hpending => absurd hzero hpending⟩
    refine rowCompleted_completeRow hq (by rw [← hzero]; rfl) fun i hi => ?_
    refine (RldUnit.fillCur_curAt s.rld.countChar _ _ _ i).trans (if_congr ?_ rfl rfl)
    have hlen : i < s.rld.countChar.rowLen := hi
    simp only [RldUnit.countChar_cursor]
    omega

/-- Settles O22: each of the three checks of `:` fails, or none does. -/
theorem repeatCompletesThePreviousRow : Obligations.RepeatCompletesThePreviousRow := by
  intro s hrun hq hrows
  rw [exec_of_rows_left exec_repeatRow hrun hq hrows]
  rcases repeatPrev_cases s.rld.countChar with ⟨hno, he⟩ | ⟨hprev, hpending, he⟩ | ⟨hprev, hzero, hmid, he⟩ |
    ⟨hprev, hzero, hstart, he⟩ <;> rw [he]
  · have hnot : ¬ s.rld.hasPrev = true := Bool.eq_false_iff.1 hno
    exact ⟨fun _ => rfl, fun h => absurd h hnot, fun h => absurd h hnot, fun h => absurd h hnot⟩
  · exact ⟨fun h => absurd hprev (Bool.eq_false_iff.1 h), fun _ _ => rfl, fun _ h => absurd h hpending,
      fun _ h => absurd h hpending⟩
  · exact ⟨fun h => absurd hprev (Bool.eq_false_iff.1 h), fun _ h => absurd hzero h, fun _ _ _ => rfl,
      fun _ _ h => absurd h hmid⟩
  · refine ⟨fun h => absurd hprev (Bool.eq_false_iff.1 h), fun _ h => absurd hzero h, fun _ _ h => absurd hstart h,
      fun _ _ _ => ⟨_, rfl, rowCompleted_completeRow hq (by rw [← hzero]; rfl) fun i hi => ?_⟩⟩
    rw [RldUnit.copyPrev_curAt]
    exact if_pos hi

end Sys2Proof.Machine
end

section
/-! The host interface: what a read of each plain register answers, and what a CTRL write stores and leaves as it is
(R42..R46, R89, R300, R302, R386). -/

namespace Sys2Proof.Machine

/-! Reads of the registers that are no status view (R300). -/

/-- Settles O32: a read of a mapped register answers its view and changes nothing else, and the view at each of
these eleven addresses is the field. -/
theorem registerReadsShowTheirFields : Obligations.RegisterReadsShowTheirFields := fun d s =>
  ⟨exec_csrRead rfl d s, exec_csrRead rfl d s, exec_csrRead rfl d s, exec_csrRead rfl d s,
    exec_csrRead rfl d s, exec_csrRead rfl d s, exec_csrRead rfl d s, exec_csrRead rfl d s,
    exec_csrRead rfl d s, exec_csrRead rfl d s, exec_csrRead rfl d s⟩

/-! A CTRL write (R302, R386). -/

/-- What a CTRL write may change: the registers, the two units and the answer. -/
theorem ctrlWrite_frame (d : Word32) (s : State) : ctrlWrite d s = { s with
    csr := (ctrlWrite d s).csr
    hex := (ctrlWrite d s).hex
    rld := (ctrlWrite d s).rld
    reply := some (.write false) } := rfl

/-- A write with both pulse bits 0 leaves the RLD as it is (R302). -/
theorem ctrlWrite_rld_of_no_pulse {d : Word32} (hstart : d.getLsbD 8 = false) (habort : d.getLsbD 9 = false)
    (s : State) : (ctrlWrite d s).rld = s.rld :=
  (if_neg (Bool.eq_false_iff.1 hstart)).trans (if_neg (Bool.eq_false_iff.1 habort))

theorem ctrlWriteNames_subset (d : Word32) :
    [.ctrlWrite d, .hexStart d, .hexStop d, .rldStart d, .rldAbort d] ⊆ ctrlNames d := by simp [ctrlNames]

/-- Settles O35: each of the five names means the whole CTRL write. -/
theorem ctrlWriteStoresItsBits : Obligations.CtrlWriteStoresItsBits := fun d s i hi =>
  ⟨_, exec_ctrlNames d s i (ctrlWriteNames_subset d hi), ctrlWrite_frame d s, ctrlWrite_csr d s,
    ctrlWrite_hex_of_same, fun hstart habort => ctrlWrite_rld_of_no_pulse hstart habort s⟩

end Sys2Proof.Machine
end

section
/-! Errors are unit states: no instruction and no step faults or is refused (R330, R341). -/

namespace Sys2Proof.Machine

/-- A beat answers a next state whether its unit accepts or holds it, and an access of the host answers in every
case, a bus error included. -/
theorem Meaning.exists_next {m : State → Host.Outcome State Fault Refusal} (hm : Meaning m) (s : State) :
    ∃ t, m s = .next t := by
  cases hm with
  | rld _ => exact ⟨_, rldBeat_eq _ s⟩
  | hex last b => exact ⟨_, hexBeat_eq (hexByte last b) s⟩
  | read a => exact ⟨csrRead a s, rfl⟩
  | write a d => exact ⟨hostWrite a d s, rfl⟩

theorem exec_exists_next (i : Instr) (s : State) : ∃ t, exec i s = .next t := (exec_meaning i).exists_next s

/-- A step runs an instruction, or serves a consumer, the reset line or an idle turn. -/
theorem step_exists_next (s : State) : ∃ t, step s = .next t := by
  rcases step_cases s with ⟨i, u, -, hstep, -⟩ | ⟨_, -, hstep⟩ | ⟨_, -, hstep⟩ | ⟨_, -, hstep⟩ | ⟨_, hstep⟩
  · rw [hstep]
    exact exec_exists_next i u
  all_goals exact ⟨_, hstep⟩

/-- Settles O12: the meaning of each instruction answers a next state, and so does each case of a step. -/
theorem everyEventHasANextState : Obligations.EveryEventHasANextState := ⟨exec_exists_next, step_exists_next⟩

end Sys2Proof.Machine
end
